-- ==== Sys2Proof/Word.lean ====
section
/-! DEFINITION. The word types of the Jerpan JT4820 and the eightfold bank that its numbered things come in. -/

namespace Sys2Proof

/-- One byte of a link or of a stored record. -/
abbrev Byte := BitVec 8

/-- One character as a serial receiver sees it: eight data bits, and whether its stop bit was sampled low
(01 R1, 11 R199). -/
structure SerialChar where
  byte    : Byte
  stopErr : Bool
  deriving DecidableEq, Repr

/-- The three sensor links SLR0 (load), SLR1 (primary extensometer), SLR2 (secondary extensometer). -/
inductive Link where
  | slr0 | slr1 | slr2
  deriving DecidableEq, Repr

/-- Eight like things, numbered 0 to 7: phases, monitors, route entries, inputs, output lines (00, "Names"). -/
structure Eight (α : Type) where
  e0 : α
  e1 : α
  e2 : α
  e3 : α
  e4 : α
  e5 : α
  e6 : α
  e7 : α
  deriving DecidableEq, Repr

namespace Eight

/-- Eight times the same thing. -/
def all {α : Type} (a : α) : Eight α := ⟨a, a, a, a, a, a, a, a⟩

/-- The thing with number `k`. -/
def get {α : Type} (v : Eight α) (k : Fin 8) : α :=
  match k with
  | 0 => v.e0
  | 1 => v.e1
  | 2 => v.e2
  | 3 => v.e3
  | 4 => v.e4
  | 5 => v.e5
  | 6 => v.e6
  | 7 => v.e7

/-- `v` with the thing numbered `k` replaced. -/
def set {α : Type} (v : Eight α) (k : Fin 8) (a : α) : Eight α :=
  match k with
  | 0 => { v with e0 := a }
  | 1 => { v with e1 := a }
  | 2 => { v with e2 := a }
  | 3 => { v with e3 := a }
  | 4 => { v with e4 := a }
  | 5 => { v with e5 := a }
  | 6 => { v with e6 := a }
  | 7 => { v with e7 := a }

/-- The same function on each of the eight. -/
def map {α β : Type} (f : α → β) (v : Eight α) : Eight β :=
  ⟨f v.e0, f v.e1, f v.e2, f v.e3, f v.e4, f v.e5, f v.e6, f v.e7⟩

/-- The eight in the order of their numbers. -/
def toList {α : Type} (v : Eight α) : List α :=
  [v.e0, v.e1, v.e2, v.e3, v.e4, v.e5, v.e6, v.e7]

end Eight

/-- The numbers 0 to 7 in order. -/
def indices : List (Fin 8) := [0, 1, 2, 3, 4, 5, 6, 7]

end Sys2Proof
end

