-- ==== Sys2Proof/Syntax.lean ====
section
/-! DEFINITION. The commands: one constructor for each row of spec/opcode_table.json, in the table's order. The
table gives no fields; the operands are what the arrival brings with it (Log 34). -/

namespace Sys2Proof

/-- A command taken by the controller, whole and indivisible (95). A request carries the TAG and the payload bytes
of its good frame (11 R199, R201). -/
inductive Instr where
  /-- POWER_ON: PORN low or supply applied (R210). -/
  | powerOn
  /-- CAL_LOAD_END: the calibration load of INIT finishes (R207). -/
  | calLoadEnd
  /-- SENSOR_FRAME: characters arrive on a sensor link (R2, R3). -/
  | sensorFrame (n : Link) (chars : List SerialChar)
  /-- SENSOR_CHAR_GAP_TIMEOUT: more than 20 µs between two characters of a frame (R2). -/
  | sensorCharGapTimeout (n : Link)
  /-- SILENCE_TIMER_EXPIRY: a receiver's silence timer expires (R6). -/
  | silenceTimerExpiry (n : Link)
  /-- REMOVAL_TIMER_EXPIRY: the removal timer expires (R50, R52). -/
  | removalTimerExpiry
  /-- ENCODER_TRANSITION: the pair of encoder phases takes new levels (R25). -/
  | encoderTransition (a b : Bool)
  /-- CONTROL_PERIOD: the 500 µs control period expires (R69). -/
  | controlPeriod
  /-- JOG_KEEPALIVE_EXPIRY: the jog keepalive timer expires (R78). -/
  | jogKeepaliveExpiry
  /-- BLANKING_TIMER_EXPIRY: the blanking timer expires (R112). -/
  | blankingTimerExpiry
  /-- OFF_TIME_EXPIRY: the retry off-time timer expires (R114). -/
  | offTimeExpiry
  /-- GRIP_SETTLE_TICK: a millisecond of the crystal passes for the grip settle counter (R119). -/
  | gripSettleTick
  /-- INPUT_RAW_CHANGE: a discrete input's raw pin takes a level (R161). -/
  | inputRawChange (k : Fin 8) (level : Bool)
  /-- INPUT_FILTER_EXPIRY: an input's filter timer expires (R161). -/
  | inputFilterExpiry (k : Fin 8)
  /-- PHASE_TIMER_EXPIRY: the phase timer reaches a TIME exit's argument (R135). -/
  | phaseTimerExpiry
  /-- TEST_TIME_MS_TICK: the whole-millisecond count of test time increases (R153). -/
  | testTimeMsTick
  /-- PULSE_TIMER_EXPIRY: an output line's pulse timer expires (R166). -/
  | pulseTimerExpiry (k : Fin 8)
  /-- LOG_INTERVAL_EXPIRY: the log interval timer expires (R190). -/
  | logIntervalExpiry
  /-- MILL_TIME_STEP: a microsecond of the crystal (R196). -/
  | millTimeStep
  /-- HOST_CHAR_GAP_TIMEOUT: more than 1 ms between two characters of a host frame (R200). -/
  | hostCharGapTimeout
  /-- HOST_SOF_OVERRUN: a 0xD5 arrives, with 16 replies pending (R200). -/
  | hostSofOverrun
  /-- HOST_FRAME_CRC_ERROR: the characters of a host frame that fails its CRC (R200). -/
  | hostFrameCrcError (chars : List SerialChar)
  /-- HOST_UNKNOWN_REQUEST: a good frame whose KIND is not in the catalogue (R201). -/
  | hostUnknownRequest (kind tag : Byte) (payload : List Byte)
  /-- TRANSMIT_FRAME_END: the last byte of a frame leaves HTXD (R202). -/
  | transmitFrameEnd
  | identify (tag : Byte) (payload : List Byte)
  | status (tag : Byte) (payload : List Byte)
  | stats (tag : Byte) (payload : List Byte)
  | getCal (tag : Byte) (payload : List Byte)
  | setCal (tag : Byte) (payload : List Byte)
  | saveCal (tag : Byte) (payload : List Byte)
  /-- SAVE_END: a calibration save finishes with the block it read back (R209). -/
  | saveEnd (readBack : List Byte)
  | setSpecimen (tag : Byte) (payload : List Byte)
  | setMethod (tag : Byte) (payload : List Byte)
  | setPhase (tag : Byte) (payload : List Byte)
  | setMonitor (tag : Byte) (payload : List Byte)
  | setRoute (tag : Byte) (payload : List Byte)
  | setOutput (tag : Byte) (payload : List Byte)
  | setLoop (tag : Byte) (payload : List Byte)
  | setTravel (tag : Byte) (payload : List Byte)
  | tare (tag : Byte) (payload : List Byte)
  | zeroExt (tag : Byte) (payload : List Byte)
  | zeroPos (tag : Byte) (payload : List Byte)
  | enable (tag : Byte) (payload : List Byte)
  | disable (tag : Byte) (payload : List Byte)
  | move (tag : Byte) (payload : List Byte)
  | jog (tag : Byte) (payload : List Byte)
  | stop (tag : Byte) (payload : List Byte)
  | clearFault (tag : Byte) (payload : List Byte)
  | trigger (tag : Byte) (payload : List Byte)
  | arm (tag : Byte) (payload : List Byte)
  | hold (tag : Byte) (payload : List Byte)
  | resume (tag : Byte) (payload : List Byte)
  | endTest (tag : Byte) (payload : List Byte)
  | abort (tag : Byte) (payload : List Byte)
  | clearTest (tag : Byte) (payload : List Byte)
  | extConfirm (tag : Byte) (payload : List Byte)
  | readResult (tag : Byte) (payload : List Byte)
  | logStart (tag : Byte) (payload : List Byte)
  | logStop (tag : Byte) (payload : List Byte)
  | readLog (tag : Byte) (payload : List Byte)
  | stream (tag : Byte) (payload : List Byte)
  | setLog (tag : Byte) (payload : List Byte)
  | setTime (tag : Byte) (payload : List Byte)
  | adjustTime (tag : Byte) (payload : List Byte)
  | trimTime (tag : Byte) (payload : List Byte)
  | readTime (tag : Byte) (payload : List Byte)
  | reset (tag : Byte) (payload : List Byte)
  /-- RESET_TAKES_EFFECT: the last byte of the RESET acceptance has left HTXD (R210). -/
  | resetTakesEffect
  | restart (tag : Byte) (payload : List Byte)
  /-- RESTART_TAKES_EFFECT: the last byte of the RESTART acceptance has left HTXD (R210). -/
  | restartTakesEffect
  /-- HOST_FRAMING_ERROR: the characters of a host frame abandoned at a stop-bit error or at its LEN (R200). -/
  | hostFramingError (chars : List SerialChar)
  deriving DecidableEq, Repr

end Sys2Proof
end

