-- ==== Sys2Proof/Machine/Catalogue.lean ====
section
/-! DEFINITION. The request catalogue of 11: each request's KIND and the payload lengths it allows (R201). -/

namespace Sys2Proof.Machine

/-- The request kinds and their payload lengths; where two lengths are given, the shorter is a query. -/
def catalogueLengths : List (Nat × List Nat) :=
  [(0x01, [0]), (0x02, [2]), (0x03, [1, 10]), (0x08, [0]), (0x09, [106]), (0x0A, [0]),
   (0x10, [0, 24]), (0x11, [0, 52]), (0x12, [1, 15]), (0x13, [1, 14]), (0x14, [1, 8]),
   (0x15, [1, 7]), (0x16, [1, 9]), (0x17, [0, 10]), (0x18, [0]), (0x19, [1]), (0x1A, [0]),
   (0x20, [0]), (0x21, [0]), (0x22, [9]), (0x23, [5]), (0x24, [0]), (0x25, [0]),
   (0x28, [1]), (0x29, [1]), (0x2A, [0]), (0x2B, [0]), (0x2C, [0]), (0x2D, [0]), (0x2E, [0]),
   (0x2F, [0]), (0x30, [0]), (0x31, [1]), (0x32, [0]), (0x33, [1]), (0x34, [1]), (0x35, [0, 2]),
   (0x38, [8]), (0x39, [8]), (0x3A, [4]), (0x3B, [0]), (0x3E, [0]), (0x3F, [0])]

/-- The lengths the catalogue allows for a kind, or none where the kind is not in it. -/
def lengthsOf (kind : Nat) : Option (List Nat) :=
  (catalogueLengths.find? (fun row => row.1 == kind)).map (fun row => row.2)

end Sys2Proof.Machine
end

