-- ==== Sys2Proof/Config.lean ====
section
/-! DEFINITION. What the part fixes once: capacities, periods and limits that the rules name, and the values the
spec leaves open, which are constants without a body. -/

namespace Sys2Proof.Config

/-- The ring holds at most 4,096 log records (10 R187). -/
def ringCapacity : Nat := 4096

/-- The notice queue holds at most 32 event records (08 R160). -/
def noticeCapacity : Nat := 32

/-- The pending-reply queue holds at most 16 replies (11 R202). -/
def replyCapacity : Nat := 16

/-- The setup motion queue holds at most 8 segments (04 R73). -/
def segmentCapacity : Nat := 8

/-- The fit accumulates at most 8,192 points (09 R170). -/
def fitCapacity : Nat := 8192

/-- A frame's payload is at most 232 bytes (11 R199). -/
def maxPayload : Nat := 232

/-- The control period, in crystal microseconds (04 R68). -/
def controlPeriodUs : Nat := 500

/-- One log interval unit, in crystal microseconds (10 R190). -/
def logUnitUs : Nat := 500

/-- The nominal mill time step, 1,000 × 2^32 units of 2^-32 ns (10 R196). -/
def nominalStep : Nat := 4294967296000

/-- The part code of IDENTIFY (11 R204). -/
def partCode : Nat := 0x4820

/-- The design revision of IDENTIFY (11 R204): the spec gives its width and no value. A free value (Log 16). -/
opaque designRevision : Byte

/-- Whether the write of a calibration save had completed when a reset cut the save short (11 R209): the spec
leaves it open. A free value, read at the free counter (Log 16). -/
opaque saveWriteCompleted : Nat → Bool

/-- The CRC-32 formed over a stored block that a reset left half written (11 R209, R207): the spec says only that
it fails. A free value, fixed by the free counter at the reset that tore the block (Log 16). -/
opaque tornBlockCrc : Nat → BitVec 32

end Sys2Proof.Config
end

