-- ==== Sys2Proof/Machine/Operands.lean ====
section
/-! DEFINITION. The arithmetic of 00 ("Arithmetic", "Units and ranges"): exact integers, one rounding division,
saturation field by field; and the byte layouts of operands: high byte first, two's complement. -/

namespace Sys2Proof.Machine

/-! ## Rounding, saturation, limits -/

/-- Division rounding half away from zero (00, "Arithmetic"). Every divisor the rules use is positive; a divisor of
0 gives 0. -/
def roundDiv (num den : Int) : Int :=
  if 0 ≤ num then (2 * num + den) / (2 * den) else -((2 * (-num) + den) / (2 * den))

/-- Saturation of `x` to `lo .. hi`. -/
def clampTo (lo hi x : Int) : Int := max lo (min hi x)

/-- Saturation to the signed 32-bit range. The lower limit, -2,147,483,648 as the rules' "signed 32-bit range" has it and
not -2,147,483,647 as the table of 00 does, is the model's choice (Log 57). -/
def sat32 (x : Int) : Int := clampTo (-2147483648) 2147483647 x

/-- Saturation to the signed 64-bit range. -/
def sat64 (x : Int) : Int := clampTo (-9223372036854775808) 9223372036854775807 x

/-- A 32-bit counter's value, saturating at 4,294,967,295. -/
def satU32 (n : Nat) : Nat := min n 4294967295

/-- A 16-bit counter's value, saturating at 65,535. -/
def satU16 (n : Nat) : Nat := min n 65535

/-- The magnitude of `x` limited to `m`, its sign kept. -/
def clampMag (m : Nat) (x : Int) : Int := clampTo (-(m : Int)) (m : Int) x

/-- `x` moved toward `goal` by at most `step` (04 R75, 05 R98). -/
def moveToward (x goal : Int) (step : Nat) : Int :=
  if x + step < goal then x + step else if goal < x - step then x - step else goal

/-- One period's step of an acceleration in nm/s²: round(a / 2,000), with 1 as the least step (04 R75, R80). -/
def periodStep (a : Nat) : Nat := max 1 (roundDiv a 2000).toNat

/-- The digits of a square root, from bit `k - 1` down: the largest `r` with `r² ≤ n` that agrees with `acc` above. -/
def sqrtBits (n : Nat) : Nat → Nat → Nat
  | 0, acc => acc
  | k + 1, acc => if (acc + 2 ^ k) * (acc + 2 ^ k) ≤ n then sqrtBits n k (acc + 2 ^ k) else sqrtBits n k acc

/-- The largest `r` with `r² ≤ n`. -/
def isqrt (n : Nat) : Nat := sqrtBits n (n.log2 / 2 + 1) 0

/-- The braking speed: the largest b with b² × 1,000 ≤ amax × |R| (04 R75 step 2). -/
def brakingSpeed (amax : Nat) (remaining : Int) : Nat := isqrt (amax * remaining.natAbs / 1000)

/-! ## Bytes -/

/-- The lowest `k` bytes of `n`, high byte first. -/
def bytesOf : Nat → Nat → List Byte
  | 0, _ => []
  | k + 1, n => BitVec.ofNat 8 (n / 256 ^ k) :: bytesOf k n

/-- One byte. -/
def b1 (n : Nat) : List Byte := bytesOf 1 n

/-- Two bytes, high byte first. -/
def b2 (n : Nat) : List Byte := bytesOf 2 n

/-- Four bytes, high byte first. -/
def b4 (n : Nat) : List Byte := bytesOf 4 n

/-- A signed quantity in four bytes, two's complement, high byte first; what does not fit is saturated (00). -/
def i4 (x : Int) : List Byte := b4 (sat32 x % 4294967296).toNat

/-- An unsigned quantity in four bytes; what does not fit is saturated (00). -/
def u4 (n : Nat) : List Byte := b4 (satU32 n)

/-- An unsigned quantity in two bytes; what does not fit is saturated (00). -/
def u2 (n : Nat) : List Byte := b2 (satU16 n)

/-- A flag or level in one byte: 1 for set, on, high, asserted (Log 18). -/
def bFlag (b : Bool) : List Byte := [if b then 1 else 0]

/-- A set of named members in one byte: bit n for the member at position n of its list (11 R202, catalogue). -/
def bSet (members : List Bool) : List Byte :=
  b1 ((members.zipIdx.map (fun m => if m.1 then 2 ^ m.2 else 0)).sum)

/-- A present mark followed by the item, whose bytes are 0 where it is absent (11 R202, catalogue; Log 19). -/
def bOption {α : Type} (size : Nat) (enc : α → List Byte) : Option α → List Byte
  | some a => 1 :: enc a
  | none => 0 :: List.replicate size 0

/-- The number spelled by bytes, high byte first. -/
def natOf (bs : List Byte) : Nat := bs.foldl (fun acc b => acc * 256 + b.toNat) 0

/-- A two's complement number of `bits` bits. -/
def signedOf (bits : Nat) (n : Nat) : Int :=
  if n < 2 ^ (bits - 1) then (n : Int) else (n : Int) - (2 ^ bits : Nat)

/-- The unsigned field of `len` bytes at offset `off` of a payload. -/
def fieldU (p : List Byte) (off len : Nat) : Nat := natOf ((p.drop off).take len)

/-- The signed field of `len` bytes at offset `off` of a payload. -/
def fieldS (p : List Byte) (off len : Nat) : Int := signedOf (8 * len) (fieldU p off len)

/-- A flag or present mark: 0 or 1; any other byte is outside its list (Log 18). -/
def flagOf (n : Nat) : Option Bool :=
  if n = 0 then some false else if n = 1 then some true else none

/-! ## The check codes of the links -/

/-- One bit of the CRC-16 with generator x^16 + x^12 + x^5 + 1, on the high bit (11 R199). -/
def crc16Bit (crc : Nat) : Nat :=
  if 32768 ≤ crc then ((crc * 2) % 65536) ^^^ 0x1021 else crc * 2

/-- One byte into the CRC-16, most significant bit first. -/
def crc16Byte (crc : Nat) (b : Byte) : Nat :=
  crc16Bit (crc16Bit (crc16Bit (crc16Bit (crc16Bit (crc16Bit (crc16Bit (crc16Bit (crc ^^^ (b.toNat * 256)))))))))

/-- The CRC-16 of a host frame: initial value 0xFFFF, no final inversion (11 R199). -/
def crc16 (bs : List Byte) : Nat := bs.foldl crc16Byte 0xFFFF

/-- One bit of the CRC-32 with generator 0x04C11DB7, on the high bit (11 R207). -/
def crc32Bit (crc : Nat) : Nat :=
  if 2147483648 ≤ crc then ((crc * 2) % 4294967296) ^^^ 0x04C11DB7 else crc * 2

/-- One byte into the CRC-32, most significant bit first. -/
def crc32Byte (crc : Nat) (b : Byte) : Nat :=
  crc32Bit (crc32Bit (crc32Bit (crc32Bit (crc32Bit (crc32Bit (crc32Bit (crc32Bit (crc ^^^ (b.toNat * 16777216)))))))))

/-- The CRC-32 of a stored block: initial value 0xFFFFFFFF, the result inverted (11 R207). -/
def crc32 (bs : List Byte) : Nat := bs.foldl crc32Byte 0xFFFFFFFF ^^^ 0xFFFFFFFF

end Sys2Proof.Machine
end

