-- ==== Sys2Proof/Machine/State.lean ====
section
/-! DEFINITION. Everything the spec gives the controller to hold, block by block, as plain data, and its value
right after power-on. A timer is `none` when stopped and otherwise holds the crystal microsecond at which it
expires (Log 2). -/

namespace Sys2Proof.Machine

/-- Why a command would stop the machine. No command of this block does: the spec gives every command an effect in
every state (a fault of the frame is an effect on the latched fault set, 06 R108). -/
inductive Fault where
  /-- Raised by nothing. Safe: no run ends in it. -/
  | neverRaised
  deriving DecidableEq, Repr

/-- Why a command has no meaning here. -/
inductive Refusal where
  /-- Raised by `exec` for a command whose meaning is not written yet; no arm is left so. Safe. -/
  | notModelled (mnemonic : String)
  deriving DecidableEq, Repr

/-! ## Sensor links (01) -/

/-- The lock state of a receiver (01 R5). -/
inductive Lock where
  | unlocked | acquiring | locked
  deriving DecidableEq, Repr

/-- The assembly condition of a receiver (01 R2): hunting, or collecting with the bytes stored so far, sync first. -/
inductive Assembly where
  | hunting
  | collecting (bytes : List Byte)
  deriving DecidableEq, Repr

/-- One sensor link receiver (01 R2 to R10). -/
structure Receiver where
  lock         : Lock
  asm          : Assembly
  /-- consecutive-good counter -/
  cg           : Nat
  /-- consecutive-bad counter -/
  cb           : Nat
  /-- bad frames since the last good frame (R4) -/
  badSince     : Nat
  lastSeq      : Option Byte
  errCount     : Nat
  errThreshold : Nat
  /-- threshold-reported mark (R8) -/
  reported     : Bool
  goodFrames   : Nat
  badFrames    : Nat
  missedFrames : Nat
  silence      : Option Nat
  deriving DecidableEq, Repr

/-- A receiver after power-on and RESET (01 R10). -/
def Receiver.init : Receiver :=
  { lock := .unlocked, asm := .hunting, cg := 0, cb := 0, badSince := 0, lastSeq := none, errCount := 0,
    errThreshold := 256, reported := false, goodFrames := 0, badFrames := 0, missedFrames := 0, silence := none }

/-- The three receivers. -/
structure Links where
  slr0 : Receiver
  slr1 : Receiver
  slr2 : Receiver
  deriving DecidableEq, Repr

/-! ## Force Channel (01) -/

/-- An averaging operation in flight: a tare (01 R18) or a zeroing (03 R44), with its frame count and sum. -/
structure Averaging where
  count : Nat
  sum   : Int
  deriving DecidableEq, Repr

/-- The Force Channel's own state (01, "Force Channel"). -/
structure Force where
  tare         : Int
  /-- the current force F, cN -/
  f            : Int
  liveOver     : Bool
  liveNear     : Bool
  latchOver    : Bool
  latchNear    : Bool
  /-- the uncalibrated range last reported (R13) -/
  uncal        : Option Nat
  tareOp       : Option Averaging
  fmax         : Int
  strainAtFmax : Int
  /-- the test has a curve point (R20) -/
  hasPoint     : Bool
  deriving DecidableEq, Repr

/-- The Force Channel after power-on and RESET (01 R21). -/
def Force.init : Force :=
  { tare := 0, f := 0, liveOver := false, liveNear := false, latchOver := false, latchNear := false, uncal := none,
    tareOp := none, fmax := 0, strainAtFmax := 0, hasPoint := false }

/-! ## Strain Channel (02) -/

/-- The specimen record (02 R22). -/
structure Specimen where
  area     : Nat
  lc       : Nat
  l0Prim   : Nat
  l0Sec    : Nat
  eMin     : Nat
  eMax     : Nat
  deriving DecidableEq, Repr

/-- The active strain source; coded PRIMARY 0, SECONDARY 1, CROSSHEAD 2 (02). -/
inductive Source where
  | primary | secondary | crosshead
  deriving DecidableEq, Repr

/-- The Strain Channel's state (02). -/
structure Strain where
  specimen  : Specimen
  stress    : Int
  /-- saturation mark of the stress (R24) -/
  stressSat : Bool
  p0        : Int
  source    : Source
  /-- stitch offset S (R33) -/
  stitch    : Int
  /-- crosshead strain (R28) -/
  epsC      : Int
  /-- active strain (R29) -/
  active    : Int
  /-- source in force when the last load frame's set was handed on (R30, 09 R168; Log 51) -/
  setSource : Source
  deriving DecidableEq, Repr

/-- The Strain Channel after power-on and RESET (02 R38). R38 gives the source of a set that no frame has handed on yet no
value: CROSSHEAD, as the source itself, is the model's choice (Log 51). -/
def Strain.init : Strain :=
  { specimen := { area := 0, lc := 0, l0Prim := 0, l0Sec := 0, eMin := 0, eMax := 0 }, stress := 0,
    stressSat := false, p0 := 0, source := .crosshead, stitch := 0, epsC := 0, active := 0,
    setSource := .crosshead }

/-! ## Extensometer Handler (03) -/

/-- Extensometer 1, the primary on SLR1, and extensometer 2, the secondary on SLR2. -/
inductive ExtNo where
  | primary | secondary
  deriving DecidableEq, Repr

/-- The seven extensometer states (03 R40). -/
inductive ExtState where
  | absent | unzeroed | ready | active | removing | removed | lost
  deriving DecidableEq, Repr

/-- What the Handler holds for one extensometer (03, "Elongation and strain"). -/
structure Ext where
  state  : ExtState
  zero   : Int
  zeroed : Bool
  raw    : Int
  elong  : Int
  strain : Int
  /-- zeroing operation in flight (R44) -/
  op     : Option Averaging
  deriving DecidableEq, Repr

/-- An extensometer after power-on and RESET (03 R63). -/
def Ext.init : Ext :=
  { state := .absent, zero := 0, zeroed := false, raw := 0, elong := 0, strain := 0, op := none }

/-- The method's removal policy (03 R46). -/
inductive Policy where
  | none | pause | fly
  deriving DecidableEq, Repr

/-- The removal condition (03 R46). -/
inductive RemovalCond where
  | monitor (m : Fin 8)
  | afterProof
  deriving DecidableEq, Repr

/-- The mode a removal takes (03 R46). -/
inductive RemovalMode where
  | pause | fly
  deriving DecidableEq, Repr

/-- The removal timer (03 R46): stopped, running with its expiry time in test time µs, or expired. -/
inductive RemovalTimer where
  | stopped
  | running (expiry : Nat)
  | expired
  deriving DecidableEq, Repr

/-- The confirmation kind (03 R46). -/
inductive Confirmation where
  | armsInput | hostConfirm | none | timeout
  deriving DecidableEq, Repr

/-- The removal record (03 R46). -/
structure RemovalRecord where
  policy      : Policy
  cond        : Option RemovalCond
  mode        : Option RemovalMode
  requestTime : Option Nat
  edges       : Nat
  timer       : RemovalTimer
  /-- strain at hand-over -/
  strainAt    : Option Int
  kind        : Option Confirmation
  deriving DecidableEq, Repr

/-- The removal record after power-on, RESET, RESTART and CLEAR_TEST (03 R63, R42). -/
def RemovalRecord.init : RemovalRecord :=
  { policy := .none, cond := none, mode := none, requestTime := none, edges := 0, timer := .stopped,
    strainAt := none, kind := none }

/-- The Extensometer Handler's state (03). -/
structure Handler where
  primary       : Ext
  secondary     : Ext
  removal       : RemovalRecord
  /-- level of REMOVE_REQUEST (R55) -/
  removeRequest : Bool
  /-- slip tracker: reference maximum M and crosshead reference X (R59) -/
  slipM         : Int
  slipX         : Int
  deriving DecidableEq, Repr

/-- The Handler after power-on and RESET (03 R63). -/
def Handler.init : Handler :=
  { primary := Ext.init, secondary := Ext.init, removal := RemovalRecord.init, removeRequest := false, slipM := 0,
    slipX := 0 }

/-! ## Motion Controller (04) -/

/-- The eight motion states (04 R64). -/
inductive MotionState where
  | off | standby | move | jog | test | stopping | retryWait | fault
  deriving DecidableEq, Repr

/-- The destination of a controlled stop (04 R80). -/
inductive StopDest where
  | standby | off | fault
  deriving DecidableEq, Repr

/-- A segment of the setup motion queue (04 R73). Trigger 0 is IMMEDIATE. -/
structure Segment where
  target  : Int
  speed   : Nat
  trigger : Nat
  started : Bool
  deriving DecidableEq, Repr

/-- The jog record (04 R77). -/
structure Jog where
  positive : Bool
  speed    : Nat
  deriving DecidableEq, Repr

/-- The Motion Controller's state (04), with the encoder count (02 R25). -/
structure Motion where
  state      : MotionState
  dest       : Option StopDest
  /-- level of DRIVE_EN (R65) -/
  driveEn    : Bool
  queue      : List Segment
  /-- reference X in 1/2,000 nm (R75) -/
  refX       : Int
  jog        : Option Jog
  keepalive  : Option Nat
  softLower  : Option Int
  softUpper  : Option Int
  /-- active velocity ceiling (R70) -/
  ceiling    : Nat
  /-- the blind-speed condition holds (R71) -/
  blind      : Bool
  /-- demand last sent (R68) -/
  lastDemand : Int
  /-- the characters last sent on DLTX (R68), none before the first word (Log 14) -/
  lastWord   : List Byte
  /-- sign of the last non-zero demand sent: positive, negative or none (R72) -/
  sign       : Option Bool
  /-- zero run Z (R72) -/
  zeroRun    : Nat
  /-- dwell-active mark (R72) -/
  dwell      : Bool
  encCount   : Int
  encErrors  : Nat
  encA       : Bool
  encB       : Bool
  /-- next expiry of the control period timer (R68) -/
  periodDue  : Nat
  deriving DecidableEq, Repr

/-- The Motion Controller after power-on and RESET (04 R88, 02 R25). The ceiling is the one formed from the default
calibration (Log 13). No rule gives the characters last sent on DLTX before the first word, nor drops them at a RESTART:
that there are none, and that a RESTART keeps them, is the model's choice (Log 14). No rule gives the reference X before a
head begins either: 0 here, and kept by a RESTART, is the model's choice too (Log 14). -/
def Motion.init : Motion :=
  { state := .off, dest := none, driveEn := false, queue := [], refX := 0, jog := none, keepalive := none,
    softLower := none, softUpper := none, ceiling := 8333, blind := true, lastDemand := 0, lastWord := [],
    sign := none, zeroRun := 0, dwell := false, encCount := 0, encErrors := 0, encA := false, encB := false,
    periodDue := Config.controlPeriodUs }

/-! ## Rate Loop (05) -/

/-- The control modes (05 R90). -/
inductive Mode where
  | positionRate | stressRate | strainRate | holdPosition
  deriving DecidableEq, Repr

/-- One gain set, Q16.16 (05 R91). -/
structure Gains where
  kp : Nat
  ki : Nat
  deriving DecidableEq, Repr

/-- The Rate Loop's state (05, "Loop state"). -/
structure RateLoop where
  gPos    : Gains
  gStress : Gains
  gStrain : Gains
  mode    : Option Mode
  rate    : Int
  /-- target accumulator A_t -/
  acc     : Int
  target  : Int
  /-- integral term I -/
  integ   : Int
  /-- previous demand -/
  prev    : Int
  meas    : Int
  err     : Int
  pTerm   : Int
  raw     : Int
  deriving DecidableEq, Repr

/-- The Rate Loop after power-on and RESET (05 R107). -/
def RateLoop.init : RateLoop :=
  { gPos := ⟨0, 0⟩, gStress := ⟨0, 0⟩, gStrain := ⟨0, 0⟩, mode := none, rate := 0, acc := 0, target := 0,
    integ := 0, prev := 0, meas := 0, err := 0, pTerm := 0, raw := 0 }

/-! ## Protection Unit (06) -/

/-- The latched fault set (06 R108). -/
structure FaultSet where
  overload   : Bool
  driveFault : Bool
  estop      : Bool
  overPos    : Bool
  overNeg    : Bool
  deriving DecidableEq, Repr

/-- The empty latched fault set. -/
def FaultSet.empty : FaultSet :=
  { overload := false, driveFault := false, estop := false, overPos := false, overNeg := false }

/-- The Protection Unit's state (06). -/
structure Protection where
  latched   : FaultSet
  /-- overload condition (R110) -/
  overload  : Bool
  blanking  : Option Nat
  /-- drive-fault episode with its retry count (R114) -/
  episode   : Option Nat
  offTime   : Option Nat
  /-- grip settle counter (R119) -/
  gripCount : Nat
  deriving DecidableEq, Repr

/-- The Protection Unit after power-on and RESET (06 R124). -/
def Protection.init : Protection :=
  { latched := FaultSet.empty, overload := false, blanking := none, episode := none, offTime := none,
    gripCount := 0 }

/-! ## Test Sequencer (07) -/

/-- The seven sequencer states (07, "Sequencer states"). -/
inductive SeqState where
  | idle | armed | running | held | finishing | complete | aborted
  deriving DecidableEq, Repr

/-- The method record (07 R125). -/
structure Method where
  phaseCount   : Nat
  strainZero   : Bool
  policy       : Policy
  cond         : Option RemovalCond
  /-- removal timeout, s -/
  timeout      : Nat
  guardMargin  : Nat
  slip         : Nat
  /-- lock-loss policy: ABORT, else HOLD -/
  lockAbort    : Bool
  fitLower     : Nat
  fitUpper     : Nat
  proofOffset  : Nat
  yieldDrop    : Nat
  transient    : Nat
  yieldLimit   : Nat
  plateauLimit : Nat
  fmaxPass     : Nat
  fracture     : Nat
  minFracture  : Nat
  useBreak     : Bool
  gripSettle   : Nat
  deriving DecidableEq, Repr

/-- The method record's defaults (07, "Method record", R150). -/
def Method.default : Method :=
  { phaseCount := 0, strainZero := false, policy := .none, cond := none, timeout := 10, guardMargin := 0,
    slip := 500, lockAbort := false, fitLower := 100000, fitUpper := 300000, proofOffset := 20000, yieldDrop := 5,
    transient := 5000, yieldLimit := 100000, plateauLimit := 500000, fmaxPass := 20, fracture := 200,
    minFracture := 100000, useBreak := false, gripSettle := 0 }

/-- The exit kinds (07 R126). -/
inductive ExitKind where
  | monitor | yieldDecided | proofDecided | fmaxPassed | handoverDone | time | fractureOnly
  deriving DecidableEq, Repr

/-- One phase table entry (07 R126). -/
structure Phase where
  mode : Mode
  rate : Int
  vmax : Nat
  exit : ExitKind
  arg  : Nat
  deriving DecidableEq, Repr

/-- A phase table entry after power-on and RESET (07 R126). -/
def Phase.default : Phase :=
  { mode := .holdPosition, rate := 0, vmax := 0, exit := .fractureOnly, arg := 0 }

/-- The five held reasons (07 R136). -/
inductive HeldReason where
  | host | route | removal | lockLoss | grip
  deriving DecidableEq, Repr

/-- The held-reason set (07 R136). -/
structure HeldSet where
  host     : Bool
  route    : Bool
  removal  : Bool
  lockLoss : Bool
  grip     : Bool
  deriving DecidableEq, Repr

/-- The empty held-reason set. -/
def HeldSet.empty : HeldSet :=
  { host := false, route := false, removal := false, lockLoss := false, grip := false }

/-- The end reasons; codes 1 to 4 (07 R148). -/
inductive EndReason where
  | lastPhase | fracture | endReq | abort
  deriving DecidableEq, Repr

/-- The abort causes; details 0x61 to 0x68 (07 R144, R148). -/
inductive AbortCause where
  | host | overload | driveFault | estop | overtravel | travelLimit | loadLink | triggerCheck
  deriving DecidableEq, Repr

/-- The Test Sequencer's state (07). -/
structure Sequencer where
  state        : SeqState
  method       : Method
  phases       : Eight Phase
  phase        : Fin 8
  /-- the crystal microsecond of the current phase's entry while the phase timer runs (R135) -/
  phaseStart   : Option Nat
  /-- the phase timer's count in ms when it is stopped -/
  phaseCount   : Nat
  held         : HeldSet
  /-- the crystal microsecond at which HELD was last entered (R136), none after a reset (R150) and out of HELD (Log 61) -/
  heldSince    : Option Nat
  pendingExit  : Bool
  armedTrigger : Option Nat
  endReason    : Option EndReason
  abortCause   : Option AbortCause
  /-- test time in ms at the abort cause (R146 step 5) -/
  abortMs      : Nat
  /-- the status signal FRACTURED (08 R165) -/
  fractured    : Bool
  deriving DecidableEq, Repr

/-- The Sequencer after power-on and RESET (07 R150). R150 has the phase timer stopped and gives it no count: the 0 that
STATUS then reports, here and after RESTART, is the model's choice (Log 14). -/
def Sequencer.init : Sequencer :=
  { state := .idle, method := Method.default, phases := Eight.all Phase.default, phase := 0, phaseStart := none,
    phaseCount := 0, held := HeldSet.empty, heldSince := none, pendingExit := false, armedTrigger := none,
    endReason := none, abortCause := none, abortMs := 0, fractured := false }

/-! ## Monitor Bank (08) -/

/-- The monitored quantities (08 R151). -/
inductive Quantity where
  | force | stress | strain | primaryStrain | secondaryStrain | crossheadStrain | position | testTimeMs
  | forcePerMilleOfPeak
  deriving DecidableEq, Repr

/-- The monitor states (08 R152). -/
inductive MonitorState where
  | disabled | armed | fired
  deriving DecidableEq, Repr

/-- One monitor: its record (08 R151), its state and kept firing value (R152, R154). -/
structure Monitor where
  enable     : Bool
  quantity   : Quantity
  /-- direction FALL, else RISE -/
  falling    : Bool
  threshold  : Int
  hysteresis : Nat
  /-- re-arm REARM, else ONE_SHOT -/
  rearm      : Bool
  /-- scope ALWAYS, else TEST -/
  always     : Bool
  state      : MonitorState
  value      : Int
  deriving DecidableEq, Repr

/-- A monitor after power-on and RESET (08 R155). -/
def Monitor.init : Monitor :=
  { enable := false, quantity := .force, falling := false, threshold := 0, hysteresis := 0, rearm := false,
    always := false, state := .disabled, value := 0 }

/-- The Monitor Bank. `fired` holds the firings not yet given to the Sequencer and the Handler (Log 5). -/
structure MonitorBank where
  bank  : Eight Monitor
  fired : List (Fin 8 × Int)
  deriving DecidableEq, Repr

/-- The Monitor Bank after power-on and RESET (08 R155). -/
def MonitorBank.init : MonitorBank := { bank := Eight.all Monitor.init, fired := [] }

/-! ## Event Router (08) -/

/-- An event record (08 R156). `phase` is 0xFF outside a test. -/
structure EventRecord where
  code  : Nat
  sec   : Nat
  ns    : Nat
  value : Int
  phase : Nat
  lost  : Nat
  deriving DecidableEq, Repr

/-- A route table entry (08 R157). -/
structure Route where
  enable : Bool
  code   : Nat
  /-- compared length -/
  len    : Nat
  /-- notify setting SILENT, else NOTIFY -/
  silent : Bool
  mark   : Bool
  hold   : Bool
  mask   : Byte
  deriving DecidableEq, Repr

/-- A route entry after power-on and RESET (08 R167). -/
def Route.init : Route :=
  { enable := false, code := 0, len := 0, silent := false, mark := false, hold := false, mask := 0 }

/-- The Event Router's state. `raised` holds the events raised and not yet taken (Log 4). -/
structure Router where
  routes  : Eight Route
  notices : List EventRecord
  /-- notices-lost count (R160) -/
  lost    : Nat
  raised  : List EventRecord
  deriving DecidableEq, Repr

/-- The Event Router after power-on and RESET (08 R167). -/
def Router.init : Router := { routes := Eight.all Route.init, notices := [], lost := 0, raised := [] }

/-! ## Discrete lines (08) -/

/-- One discrete input (08 R161). `true` is high, or asserted. -/
structure Input where
  raw      : Bool
  filtered : Bool
  asserted : Bool
  timer    : Option Nat
  deriving DecidableEq, Repr

/-- An input after power-on and RESET (08 R162). -/
def Input.init : Input := { raw := false, filtered := false, asserted := false, timer := none }

/-- The status signals an output line may follow (08 R165). -/
inductive Signal where
  | testRunning | crossheadMoving | removeRequest | held | anyFault | fractured | loadLocked
  | monitorFired (m : Fin 8)
  deriving DecidableEq, Repr

/-- An output line's source (08 R164). -/
inductive OutSource where
  | low | high
  | status (sig : Signal)
  | pulse
  deriving DecidableEq, Repr

/-- One output line (08 R164, R166). -/
structure Output where
  source : OutSource
  invert : Bool
  /-- pulse width, ms -/
  width  : Nat
  /-- pulse timer -/
  pulse  : Option Nat
  deriving DecidableEq, Repr

/-- An output line after power-on and RESET (08 R167). -/
def Output.init : Output := { source := .low, invert := false, width := 100, pulse := none }

/-! ## Result Engine (09) -/

/-- The modulus fit (09 R170, R171). -/
inductive FitState where
  | isOpen | done | failed
  deriving DecidableEq, Repr

/-- The proof search (09 R172). -/
inductive ProofState where
  | waiting | isOpen | found | absent
  deriving DecidableEq, Repr

/-- The yield detector (09 R174). -/
inductive YieldState where
  | searching | plateau | decided | none
  deriving DecidableEq, Repr

/-- A curve point as the previous-point register holds it (09 R168). -/
structure CurvePoint where
  force  : Int
  stress : Int
  strain : Int
  source : Source
  deriving DecidableEq, Repr

/-- A stress with its strain. -/
structure StressStrain where
  stress : Int
  strain : Int
  deriving DecidableEq, Repr

/-- The result record's flags (09 R183). -/
structure ResultFlags where
  rpFromCrosshead   : Bool
  fitPointsCapped   : Bool
  reLTransientOnly  : Bool
  extLost           : Bool
  extNotConfirmed   : Bool
  removalTimeout    : Bool
  logGaps           : Bool
  deriving DecidableEq, Repr

/-- No flag set. -/
def ResultFlags.clear : ResultFlags :=
  { rpFromCrosshead := false, fitPointsCapped := false, reLTransientOnly := false, extLost := false,
    extNotConfirmed := false, removalTimeout := false, logGaps := false }

/-- The values of a break point (09 R180). -/
structure BreakValues where
  strain : Int
  force  : Int
  deriving DecidableEq, Repr

/-- The result record (09 R182). -/
structure ResultRecord where
  endReason    : Option EndReason
  abortCause   : Option AbortCause
  rm           : Int
  fmax         : Int
  agt          : Int
  timeAtEnd    : Nat
  sourceAtEnd  : Source
  flags        : ResultFlags
  e            : Option Nat
  reH          : Option StressStrain
  reL          : Option Int
  ae           : Option Int
  rp           : Option StressStrain
  ag           : Option Int
  /-- At and Fbreak -/
  brk          : Option BreakValues
  af           : Option Int
  removal      : Option Int
  closed       : Bool
  deriving DecidableEq, Repr

/-- The result record as test start opens it (09 R182). -/
def ResultRecord.opened (src : Source) : ResultRecord :=
  { endReason := none, abortCause := none, rm := 0, fmax := 0, agt := 0, timeAtEnd := 0, sourceAtEnd := src,
    flags := ResultFlags.clear, e := none, reH := none, reL := none, ae := none, rp := none, ag := none, brk := none,
    af := none, removal := none, closed := false }

/-- The Result Engine's state (09). -/
structure ResultEngine where
  fit         : FitState
  n           : Nat
  sx          : Int
  sy          : Int
  sxy         : Int
  sxx         : Int
  e           : Option Nat
  proof       : ProofState
  yield       : YieldState
  /-- running maximum stress with its strain (R174) -/
  smax        : Option StressStrain
  /-- all-points and clear minima of the plateau (R175) -/
  minAll      : Option Int
  minClear    : Option Int
  /-- strain of the last plateau point (R181) -/
  lastPlateau : Option Int
  rmDecided   : Bool
  fracArmed   : Bool
  prev        : Option CurvePoint
  record      : Option ResultRecord
  deriving DecidableEq, Repr

/-- The Result Engine after power-on, RESET and RESTART (09 R186). -/
def ResultEngine.init : ResultEngine :=
  { fit := .isOpen, n := 0, sx := 0, sy := 0, sxy := 0, sxx := 0, e := none, proof := .waiting, yield := .searching,
    smax := none, minAll := none, minClear := none, lastPlateau := none, rmDecided := false, fracArmed := true,
    prev := none, record := none }

/-! ## Sample Log and Time Base (10) -/

/-- The kinds of log record; codes 1, 2, 3 (10 R187, 11 R203). -/
inductive LogKind where
  | sample | gap | mark
  deriving DecidableEq, Repr

/-- A log record (10 R187). -/
structure LogRecord where
  kind     : LogKind
  held     : Bool
  inFlight : Bool
  fractured : Bool
  source   : Source
  phase    : Nat
  seqNo    : Nat
  testTime : Nat
  force    : Int
  stress   : Int
  strain   : Int
  position : Int
  deriving DecidableEq, Repr

/-- The log state (10 R188). -/
inductive LogState where
  | stopped
  | waiting (trigger : Nat)
  | running
  deriving DecidableEq, Repr

/-- The Sample Log (10). -/
structure SampleLog where
  ring         : List LogRecord
  state        : LogState
  interval     : Nat
  due          : Option Nat
  /-- sequence counter: the next number to issue -/
  seqNo        : Nat
  gap          : Nat
  firstSkipped : Nat
  stream       : Bool
  deriving DecidableEq, Repr

/-- The Sample Log after power-on and RESET (10 R194). -/
def SampleLog.init : SampleLog :=
  { ring := [], state := .stopped, interval := 20, due := none, seqNo := 0, gap := 0, firstSkipped := 0,
    stream := false }

/-- The Time Base (10 R195, R196), with the crystal's microseconds since the reset (Log 3). -/
structure TimeBase where
  testTime    : Nat
  testRunning : Bool
  sec         : Nat
  ns          : Nat
  /-- fraction of a nanosecond, in 2^-32 ns -/
  frac        : Nat
  step        : Nat
  trim        : Int
  crystal     : Nat
  msSeen      : Nat
  deriving DecidableEq, Repr

/-- The Time Base after power-on and RESET (10 R195, R198). -/
def TimeBase.init : TimeBase :=
  { testTime := 0, testRunning := false, sec := 0, ns := 0, frac := 0, step := Config.nominalStep, trim := 0,
    crystal := 0, msSeen := 0 }

/-! ## Host Link Interface and Calibration Store (11) -/

/-- The host receiver's state (11 R200), with the characters of the frame stored so far. -/
inductive HostRx where
  | hunt
  | header (got : List Byte)
  | body (len kind tag : Byte) (got : List Byte)
  deriving DecidableEq, Repr

/-- The refusal reasons; codes 1 to 17 in this order (11 R201). -/
inductive Reason where
  | unknownKind | badLength | badValue | wrongState | busy | calInvalid | loadUnlocked | queueFull | queueNotEmpty
  | faultLatched | estopOpen | gripsNotSettled | gripsOpen | armsOpen | methodInvalid | outsideTravel | extNotReady
  deriving DecidableEq, Repr

/-- A formed reply: the frame's KIND, TAG and payload (11 R199). -/
structure Reply where
  kind    : Byte
  tag     : Byte
  payload : List Byte
  deriving DecidableEq, Repr

/-- What HTXD is sending (11 R202). A reply being sent is the head of the pending-reply queue and leaves it at the
end of its frame (Log 20). -/
inductive Tx where
  | idle
  | reply
  | notice (r : EventRecord)
  | batch (rs : List LogRecord)
  deriving DecidableEq, Repr

/-- An accepted reset that has not taken effect yet (11 R210). -/
inductive ResetKind where
  | reset | restart
  deriving DecidableEq, Repr

/-- The Host Link Interface (11). -/
structure HostLink where
  rx            : HostRx
  replies       : List Reply
  tx            : Tx
  goodFrames    : Nat
  crcErrors     : Nat
  framingErrors : Nat
  overruns      : Nat
  framesSent    : Nat
  resetPending  : Option ResetKind
  deriving DecidableEq, Repr

/-- The Host Link Interface after power-on and RESET (11 R210). -/
def HostLink.init : HostLink :=
  { rx := .hunt, replies := [], tx := .idle, goodFrames := 0, crcErrors := 0, framingErrors := 0, overruns := 0,
    framesSent := 0, resetPending := none }

/-- The calibration of one load range: zero Z and gain G (01, "Force Channel"). -/
structure RangeCal where
  zero : Int
  gain : Int
  deriving DecidableEq, Repr

/-- The calibration record (11, "Calibration record"). -/
structure Calibration where
  range0      : RangeCal
  range1      : RangeCal
  range2      : RangeCal
  range3      : RangeCal
  fcap        : Nat
  flim        : Nat
  pitchPrim   : Int
  pitchSec    : Int
  travelPrim  : Nat
  travelSec   : Nat
  encPitch    : Int
  compliance  : Nat
  vmax        : Nat
  amax        : Nat
  stopDecel   : Nat
  /-- reversal dwell, ms -/
  dwellMs     : Nat
  blindSpeed  : Nat
  /-- blanking time, ms -/
  blankingMs  : Nat
  retryEnable : Bool
  /-- retry off-time, ms -/
  offTimeMs   : Nat
  retryLimit  : Nat
  /-- filter time of each input, ms -/
  filterMs    : Eight Nat
  /-- invert flag of each input -/
  invert      : Eight Bool
  /-- jog keepalive, ms -/
  keepaliveMs : Nat
  /-- trigger number of TRIGGER_IN -/
  triggerIn   : Nat
  serial      : List Byte
  deriving DecidableEq, Repr

/-- The calibration record's defaults after a bad load (11, "Calibration record", R207). -/
def Calibration.default : Calibration :=
  { range0 := ⟨0, 0⟩, range1 := ⟨0, 0⟩, range2 := ⟨0, 0⟩, range3 := ⟨0, 0⟩, fcap := 0, flim := 0, pitchPrim := 0,
    pitchSec := 0, travelPrim := 0, travelSec := 0, encPitch := 0, compliance := 0, vmax := 8333, amax := 1000000,
    stopDecel := 2000000, dwellMs := 20, blindSpeed := 8333, blankingMs := 20, retryEnable := false,
    offTimeMs := 250, retryLimit := 3, filterMs := Eight.all 2, invert := Eight.all false, keepaliveMs := 250,
    triggerIn := 1, serial := List.replicate 8 0 }

/-- The 512-byte non-volatile block (11 R207): its bytes, or a block that a reset tore during its write, of which
the spec says only that its CRC fails (R209); `id` names its free value (Log 16). -/
inductive NvBlock where
  | bytes (bs : List Byte)
  | torn (id : Nat)
  deriving DecidableEq, Repr

/-- The Calibration Store (11), with the controller condition (R207). -/
structure CalStore where
  /-- controller condition READY, else INIT -/
  ready      : Bool
  cal        : Calibration
  calValid   : Bool
  calUnsaved : Bool
  /-- the block of a save in flight (R209) -/
  save       : Option (List Byte)
  nv         : NvBlock
  deriving DecidableEq, Repr

/-- The Calibration Store on entering INIT over a stored block (11 R207; Log 13). -/
def CalStore.init (nv : NvBlock) : CalStore :=
  { ready := false, cal := Calibration.default, calValid := false, calUnsaved := false, save := none, nv := nv }

/-! ## The whole machine -/

/-- The controller: the commands that wait, and everything its blocks hold. -/
structure State where
  /-- the commands that are waiting, first in, first out -/
  pending : List Instr
  links   : Links
  force   : Force
  strain  : Strain
  ext     : Handler
  motion  : Motion
  loop    : RateLoop
  prot    : Protection
  seq     : Sequencer
  mon     : MonitorBank
  router  : Router
  ins     : Eight Input
  outs    : Eight Output
  result  : ResultEngine
  log     : SampleLog
  time    : TimeBase
  host    : HostLink
  store   : CalStore
  /-- counter read and advanced at each free value (Log 16) -/
  free    : Nat
  deriving DecidableEq, Repr

/-- The controller right after its first power-on, in INIT with the calibration load under way (11 R207, R210).
The stored block, the pin levels and the free counter are the model's (Log 14, 16). -/
def State.reset : State :=
  { pending := [], links := { slr0 := Receiver.init, slr1 := Receiver.init, slr2 := Receiver.init },
    force := Force.init, strain := Strain.init, ext := Handler.init, motion := Motion.init, loop := RateLoop.init,
    prot := Protection.init, seq := Sequencer.init, mon := MonitorBank.init, router := Router.init,
    ins := Eight.all Input.init, outs := Eight.all Output.init, result := ResultEngine.init, log := SampleLog.init,
    time := TimeBase.init, host := HostLink.init, store := CalStore.init (.bytes (List.replicate 512 0)), free := 0 }

/-- What a command comes to: a next state, a fault or a refusal. -/
abbrev Outcome := Host.Outcome State Fault Refusal

end Sys2Proof.Machine
end

