-- ==== Sys2Proof/Machine/Flags.lean ====
section
/-! DEFINITION. Levels, flags and conditions that the rules form from the state: nothing here changes it. -/

namespace Sys2Proof.Machine

/-! ## Numbered things -/

/-- The receiver of a link. -/
def Links.get (l : Links) : Link → Receiver
  | .slr0 => l.slr0
  | .slr1 => l.slr1
  | .slr2 => l.slr2

/-- The receivers with that of one link replaced. -/
def Links.set (l : Links) (n : Link) (r : Receiver) : Links :=
  match n with
  | .slr0 => { l with slr0 := r }
  | .slr1 => { l with slr1 := r }
  | .slr2 => { l with slr2 := r }

/-- The number of a link, 0 to 2. -/
def linkNo : Link → Nat
  | .slr0 => 0
  | .slr1 => 1
  | .slr2 => 2

/-- The extensometer with a number. -/
def Handler.get (h : Handler) : ExtNo → Ext
  | .primary => h.primary
  | .secondary => h.secondary

/-- The Handler with one extensometer replaced. -/
def Handler.set (h : Handler) (x : ExtNo) (e : Ext) : Handler :=
  match x with
  | .primary => { h with primary := e }
  | .secondary => { h with secondary := e }

/-- The number of an extensometer, 1 or 2. -/
def extNo : ExtNo → Nat
  | .primary => 1
  | .secondary => 2

/-- The link of an extensometer. -/
def extLink : ExtNo → Link
  | .primary => .slr1
  | .secondary => .slr2

/-- The source that an extensometer is. -/
def extSource : ExtNo → Source
  | .primary => .primary
  | .secondary => .secondary

/-- The code of a source: PRIMARY 0, SECONDARY 1, CROSSHEAD 2, which is also its place in the order (02). -/
def sourceCode : Source → Nat
  | .primary => 0
  | .secondary => 1
  | .crosshead => 2

/-- The calibration of a load range. -/
def Calibration.range (c : Calibration) (r : Nat) : RangeCal :=
  if r = 0 then c.range0 else if r = 1 then c.range1 else if r = 2 then c.range2 else c.range3

/-- The code of a refusal reason (11 R201). -/
def reasonCode : Reason → Nat
  | .unknownKind => 1
  | .badLength => 2
  | .badValue => 3
  | .wrongState => 4
  | .busy => 5
  | .calInvalid => 6
  | .loadUnlocked => 7
  | .queueFull => 8
  | .queueNotEmpty => 9
  | .faultLatched => 10
  | .estopOpen => 11
  | .gripsNotSettled => 12
  | .gripsOpen => 13
  | .armsOpen => 14
  | .methodInvalid => 15
  | .outsideTravel => 16
  | .extNotReady => 17

/-- What a request comes to: the state its owning rule leaves, with the acceptance's payload or the refusal's reason
(11 R201). -/
abbrev Answer := State × Except Reason (List Byte)

/-- The request is accepted. -/
def accept (s : State) (payload : List Byte) : Answer := (s, .ok payload)

/-- The request is refused; nothing else changes (11 R201). -/
def refuse (r : Reason) (s : State) : Answer := (s, .error r)

/-- The reason of the first failing row of a list of checks, in their order. -/
def firstFailing : List (Bool × Reason) → Option Reason
  | [] => none
  | row :: rest => if row.1 then firstFailing rest else some row.2

/-- A request behind a list of checks: refused at the first that fails, else taken. -/
def checked (rows : List (Bool × Reason)) (s : State) (act : Answer) : Answer :=
  match firstFailing rows with
  | some r => refuse r s
  | none => act

/-! ## Sequencer, time and position -/

/-- The Sequencer is RUNNING or HELD. -/
def State.inTest (s : State) : Bool := s.seq.state == .running || s.seq.state == .held

/-- The Sequencer is RUNNING, HELD or FINISHING. -/
def State.testing (s : State) : Bool := s.inTest || s.seq.state == .finishing

/-- The Sequencer is IDLE, COMPLETE or ABORTED. -/
def State.betweenTests (s : State) : Bool :=
  s.seq.state == .idle || s.seq.state == .complete || s.seq.state == .aborted

/-- The crosshead position P (02 R26), formed from the count at the reader's own work. -/
def State.position (s : State) : Int := sat32 (roundDiv (s.motion.encCount * s.store.cal.encPitch) 1000)

/-- The current phase's table entry. -/
def State.curPhase (s : State) : Phase := s.seq.phases.get s.seq.phase

/-- The phase of event and log records: the phase index in a test, else 0xFF (08 R156, 10 R187). -/
def State.phaseTag (s : State) : Nat := if s.testing then s.seq.phase.val else 255

/-- The whole milliseconds of test time (08 R153). -/
def State.testMs (s : State) : Nat := s.time.testTime / 1000

/-- The phase timer's count in ms (07 R135). -/
def State.phaseMs (s : State) : Nat :=
  match s.seq.phaseStart with
  | some t => (s.time.crystal - t) / 1000
  | none => s.seq.phaseCount

/-- A timer that starts now and runs for `us` crystal microseconds. -/
def State.after (s : State) (us : Nat) : Option Nat := some (s.time.crystal + us)

/-- The whole ms left on a timer (04 R87, 06 R123). No rule says what is sent for a timer that is stopped: the 0, without
a present mark, is the model's choice (Log 19). -/
def State.msLeft (s : State) (t : Option Nat) : Nat :=
  match t with
  | some d => (d - s.time.crystal) / 1000
  | none => 0

/-! ## Inputs -/

/-- The asserted level of input `k`. -/
def State.input (s : State) (k : Fin 8) : Bool := (s.ins.get k).asserted

/-- ESTOP reads closed: IN0 is asserted (06). -/
def State.estopClosed (s : State) : Bool := s.input 0

/-- LIMIT_POS asserted. -/
def State.limitPos (s : State) : Bool := s.input 1

/-- LIMIT_NEG asserted. -/
def State.limitNeg (s : State) : Bool := s.input 2

/-- DRIVE_FAULT asserted. -/
def State.driveFaultIn (s : State) : Bool := s.input 3

/-- GRIPS_CLOSED asserted. -/
def State.gripsClosed (s : State) : Bool := s.input 4

/-- EXT_ARMS_OPEN asserted. -/
def State.armsOpen (s : State) : Bool := s.input 5

/-- SLR0 is LOCKED. -/
def State.loadLocked (s : State) : Bool := s.links.slr0.lock == .locked

/-- The link of an extensometer is LOCKED. -/
def State.extLocked (s : State) (x : ExtNo) : Bool := (s.links.get (extLink x)).lock == .locked

/-! ## Load flags (01) -/

/-- A load frame is overrange (01 R12). -/
def overrangeReading (flag : Bool) (raw : Int) : Bool :=
  flag || decide (8388352 ≤ raw) || decide (raw ≤ -8388352)

/-- The near-capacity flag after a publication of `f` (01 R15). -/
def nearCapacity (live : Bool) (f : Int) (fcap : Nat) : Bool :=
  if live then !(fcap == 0 || decide (1000 * f.natAbs < 900 * fcap))
  else fcap != 0 && decide (950 * fcap ≤ 1000 * f.natAbs)

/-- The overload condition after a publication of `f` (06 R110). -/
def overloadAfter (cond : Bool) (f : Int) (flim : Nat) : Bool :=
  if cond then !(flim == 0 || decide (10 * f.natAbs < 9 * flim))
  else flim != 0 && decide (flim ≤ f.natAbs)

/-! ## Extensometers (03) -/

/-- The gauge length of an extensometer (02 R22). -/
def State.gauge (s : State) : ExtNo → Nat
  | .primary => s.strain.specimen.l0Prim
  | .secondary => s.strain.specimen.l0Sec

/-- The pitch of an extensometer. -/
def State.extPitch (s : State) : ExtNo → Int
  | .primary => s.store.cal.pitchPrim
  | .secondary => s.store.cal.pitchSec

/-- The full travel of an extensometer. -/
def State.extTravel (s : State) : ExtNo → Nat
  | .primary => s.store.cal.travelPrim
  | .secondary => s.store.cal.travelSec

/-- A removal is in flight: from the setting of mode and request time until the confirmation kind is set (03 R46). -/
def RemovalRecord.inFlight (r : RemovalRecord) : Bool := r.mode.isSome && r.requestTime.isSome && r.kind.isNone

/-- The guard level of an extensometer: full travel less the margin, where 0 stands for 5% of the travel (03 R58). -/
def State.guardLevel (s : State) (x : ExtNo) : Int :=
  (s.extTravel x : Int) -
    (if s.seq.method.guardMargin = 0 then roundDiv ((s.extTravel x : Int) * 50) 1000
     else (s.seq.method.guardMargin : Int))

/-- A reading meets the range guard (03 R58). -/
def State.guardMet (s : State) (x : ExtNo) (flag : Bool) (raw : Int) : Bool :=
  flag || decide (s.guardLevel x ≤ (raw.natAbs : Int))

/-- The state derived from the link and the zeroed mark (03 R40). -/
def derivedExtState (locked zeroed : Bool) : ExtState :=
  if locked then (if zeroed then .ready else .unzeroed) else .absent

/-! ## Motion (04) -/

/-- The motion states in which DRIVE_EN is high (04 R64, R65). -/
def MotionState.enabled : MotionState → Bool
  | .standby | .move | .jog | .test | .stopping => true
  | .off | .retryWait | .fault => false

/-- The motion state a stop's destination is. -/
def StopDest.toMotion : StopDest → MotionState
  | .standby => .standby
  | .off => .off
  | .fault => .fault

/-- The head segment, once it has started: executing, or suspended in RETRY_WAIT (04 R73, R85). -/
def Motion.startedHead (m : Motion) : Option Segment :=
  match m.queue with
  | [] => none
  | seg :: _ => if seg.started then some seg else none

/-- The head segment where it waits on a trigger (04 R73). -/
def Motion.waitingHead (m : Motion) : Option Segment :=
  match m.queue with
  | [] => none
  | seg :: _ => if seg.started then none else some seg

/-- RETRY_WAIT suspending a move. -/
def Motion.suspendsMove (m : Motion) : Bool := m.state == .retryWait && m.startedHead.isSome

/-- RETRY_WAIT suspending a jog. -/
def Motion.suspendsJog (m : Motion) : Bool := m.state == .retryWait && m.jog.isSome

/-- The blind-speed condition: SLR0 not LOCKED, or CAL_VALID false (04 R71). -/
def State.blindNow (s : State) : Bool := !s.loadLocked || !s.store.calValid

/-- The lesser of a bound and a component that applies. -/
def capBy (c : Nat) : Option Nat → Nat
  | some x => min c x
  | none => c

/-- The component of the ceiling that the motion state brings (04 R70). -/
def State.motionComponent (s : State) : Option Nat :=
  match s.motion.state with
  | .move => s.motion.startedHead.map (fun seg => seg.speed)
  | .jog => s.motion.jog.map (fun j => j.speed)
  | .test => some s.curPhase.vmax
  | .retryWait =>
    match s.motion.startedHead with
    | some seg => some seg.speed
    | none => s.motion.jog.map (fun j => j.speed)
  | _ => none

/-- The active velocity ceiling as R70 forms it from the present state (04). -/
def State.ceilingNow (s : State) : Nat :=
  capBy (capBy s.store.cal.vmax s.motionComponent) (if s.blindNow then some s.store.cal.blindSpeed else none)

/-- The upper soft limit is met by P with the demand toward it (04 R83). -/
def State.upperMet (s : State) : Bool :=
  match s.motion.softUpper with
  | some u => decide (u < s.position) && decide (0 < s.motion.lastDemand)
  | none => false

/-- The lower soft limit is met by P with the demand toward it (04 R83). -/
def State.lowerMet (s : State) : Bool :=
  match s.motion.softLower with
  | some l => decide (s.position < l) && decide (s.motion.lastDemand < 0)
  | none => false

/-- A position lies within the soft limits that are present, bounds included (04 R74). -/
def State.withinTravel (s : State) (x : Int) : Bool :=
  (match s.motion.softLower with | some l => decide (l ≤ x) | none => true) &&
  (match s.motion.softUpper with | some u => decide (x ≤ u) | none => true)

/-! ## Protection and grips (06) -/

/-- The latched fault set is not empty. -/
def FaultSet.any (f : FaultSet) : Bool := f.overload || f.driveFault || f.estop || f.overPos || f.overNeg

/-- The members of the latched fault set in the order of R108. -/
def FaultSet.members (f : FaultSet) : List Bool := [f.overload, f.driveFault, f.estop, f.overPos, f.overNeg]

/-- The grips are settled (06 R119). -/
def State.gripsSettled (s : State) : Bool :=
  s.seq.method.gripSettle == 0 || decide (s.seq.method.gripSettle ≤ s.prot.gripCount)

/-! ## Held reasons (07) -/

/-- A reason is a member of the set. -/
def HeldSet.has (h : HeldSet) : HeldReason → Bool
  | .host => h.host
  | .route => h.route
  | .removal => h.removal
  | .lockLoss => h.lockLoss
  | .grip => h.grip

/-- The set with a reason added. -/
def HeldSet.add (h : HeldSet) : HeldReason → HeldSet
  | .host => { h with host := true }
  | .route => { h with route := true }
  | .removal => { h with removal := true }
  | .lockLoss => { h with lockLoss := true }
  | .grip => { h with grip := true }

/-- The members of the set in the order of R136. -/
def HeldSet.members (h : HeldSet) : List Bool := [h.host, h.route, h.removal, h.lockLoss, h.grip]

/-- The number of members. -/
def HeldSet.count (h : HeldSet) : Nat := h.members.count true

/-- The detail of HELD(reason) (07 R148). -/
def heldDetail : HeldReason → Nat
  | .host => 0x21
  | .route => 0x22
  | .removal => 0x23
  | .lockLoss => 0x24
  | .grip => 0x25

/-- The code of an end reason (07 R148). -/
def endCode : EndReason → Nat
  | .lastPhase => 1
  | .fracture => 2
  | .endReq => 3
  | .abort => 4

/-- The detail of ABORTED(cause) (07 R148). -/
def causeDetail : AbortCause → Nat
  | .host => 0x61
  | .overload => 0x62
  | .driveFault => 0x63
  | .estop => 0x64
  | .overtravel => 0x65
  | .travelLimit => 0x66
  | .loadLink => 0x67
  | .triggerCheck => 0x68

/-- The yield detector is in DECIDED or NONE. -/
def YieldState.isDecided : YieldState → Bool
  | .decided | .none => true
  | .searching | .plateau => false

/-- The proof search is decided, found or absent. -/
def ProofState.isDecided : ProofState → Bool
  | .found | .absent => true
  | .waiting | .isOpen => false

/-- The exit of the current phase holds at its entry (07 R132). -/
def State.exitHolds (s : State) : Bool :=
  match s.curPhase.exit with
  | .monitor => (s.mon.bank.get (Fin.ofNat 8 s.curPhase.arg)).state == .fired
  | .yieldDecided => s.result.yield.isDecided
  | .proofDecided => s.result.proof.isDecided
  | .fmaxPassed => s.result.rmDecided
  | .handoverDone => s.strain.source == .crosshead
  | .time => false
  | .fractureOnly => false

/-! ## Rate Loop (05) -/

/-- The measured value of a mode (05 R90). -/
def State.measured (s : State) : Mode → Int
  | .positionRate => s.position
  | .stressRate => s.strain.stress
  | .strainRate => s.strain.active
  | .holdPosition => s.position

/-- The feedforward of a mode at a rate (05 R94). -/
def State.feedforward (s : State) (m : Mode) (rate : Int) : Int :=
  match m with
  | .positionRate => rate
  | .strainRate => roundDiv (rate * (s.strain.specimen.lc : Int)) 10000
  | .stressRate => 0
  | .holdPosition => 0

/-- The gain set of a mode (05 R90). -/
def RateLoop.gainsOf (l : RateLoop) : Mode → Gains
  | .positionRate => l.gPos
  | .stressRate => l.gStress
  | .strainRate => l.gStrain
  | .holdPosition => l.gPos

/-! ## Status signals and output pins (08) -/

/-- The level of a status signal (08 R165). -/
def State.signal (s : State) : Signal → Bool
  | .testRunning => s.testing
  | .crossheadMoving => s.motion.lastDemand != 0
  | .removeRequest => s.ext.removeRequest
  | .held => s.seq.state == .held
  | .anyFault => s.prot.latched.any
  | .fractured => s.seq.fractured
  | .loadLocked => s.loadLocked
  | .monitorFired m => (s.mon.bank.get m).state == .fired

/-- The source level of an output line (08 R164). -/
def State.sourceLevel (s : State) (o : Output) : Bool :=
  match o.source with
  | .low => false
  | .high => true
  | .status sig => s.signal sig
  | .pulse => o.pulse.isSome

/-- The level the pin of output line `k` drives (08 R164). -/
def State.outLevel (s : State) (k : Fin 8) : Bool := s.sourceLevel (s.outs.get k) != (s.outs.get k).invert

end Sys2Proof.Machine
end

