-- ==== Sys2Proof/Machine/Ops.lean ====
section
/-! DEFINITION. The operations that several blocks share: raising an event, storing log records, evaluating
monitors, changing the motion state, and the result record's fields that other blocks set. -/

namespace Sys2Proof.Machine

/-! ## Events (08 R156) -/

/-- An event is raised: its record is formed with the mill time and phase of this moment and waits for the Router,
which takes events in the order in which they are raised (08 R156; Log 4). The value is saturated to its field. -/
def raise (code : Nat) (value : Int) (s : State) : State :=
  { s with router := { s.router with
      raised := s.router.raised ++
        [{ code := code, sec := s.time.sec, ns := s.time.ns, value := sat32 value, phase := s.phaseTag, lost := 0 }] } }

/-! ## Result record fields set by several blocks (09 R182, R183) -/

/-- A change of the result record, where one exists and is not closed (09 R181: no field of a closed record
changes). -/
def updRecord (g : ResultRecord → ResultRecord) (s : State) : State :=
  match s.result.record with
  | some r => if r.closed then s else { s with result := { s.result with record := some (g r) } }
  | none => s

/-- A change of the result record's flags. -/
def updFlags (g : ResultFlags → ResultFlags) (s : State) : State := updRecord (fun r => { r with flags := g r.flags }) s

/-! ## Sample Log (10) -/

/-- The free slots of the ring (10 R187). -/
def State.logFree (s : State) : Nat := Config.ringCapacity - s.log.ring.length

/-- The source that the log flags carry, by its code: the one in force at the expiry of a SAMPLE and at the storing of a
GAP or MARK (10 R187, R192). When a load frame's set is handed on, it is the source in force then, the one kept with the
set (02 R30; `logSource_noteSet`); that R30 speaks of that moment, and of no later one, is the model's reading (Log 51). -/
def State.logSource (s : State) : Source := s.strain.source

/-- A log record with the stamps and flags of this moment (10 R187). -/
def State.logStamp (s : State) (kind : LogKind) (seqNo : Nat) (force stress strain position : Int) : LogRecord :=
  { kind := kind, held := s.seq.state == .held, inFlight := s.ext.removal.inFlight, fractured := s.seq.fractured,
    source := s.logSource, phase := s.phaseTag, seqNo := seqNo, testTime := s.time.testTime, force := force,
    stress := stress, strain := strain, position := position }

/-- A record joins the tail of the ring. -/
def pushLog (r : LogRecord) (s : State) : State := { s with log := { s.log with ring := s.log.ring ++ [r] } }

/-- The pending GAP record is stored, GAP is raised and the gap counter returns to 0 (10 R191). -/
def storeGap (s : State) : State :=
  let s1 := pushLog (s.logStamp .gap s.log.firstSkipped s.log.gap 0 0 0) s
  let s2 := raise 0x0901 s.log.gap s1
  { s2 with log := { s2.log with gap := 0 } }

/-- While the log is not RUNNING, a pending GAP is stored as soon as the ring has a free slot (10 R191). -/
def flushGap (s : State) : State :=
  if s.log.state != .running && s.log.gap != 0 && s.logFree != 0 then storeGap s else s

/-- A MARK action (10 R192). -/
def markLog (code : Nat) (value : Int) (s : State) : State :=
  if s.log.gap = 0 then
    if s.logFree = 0 then s
    else pushLog (s.logStamp .mark 0 code value s.strain.active s.position) s
  else if 2 ≤ s.logFree then
    let s1 := storeGap s
    pushLog (s1.logStamp .mark 0 code value s1.strain.active s1.position) s1
  else s

/-- The log becomes RUNNING: the interval timer starts and LOG_STARTED is raised (10 R188). -/
def startLog (s : State) : State :=
  raise 0x0902 s.log.seqNo
    { s with log := { s.log with state := .running, due := s.after (s.log.interval * Config.logUnitUs) } }

/-- The log becomes STOPPED, with the value of LOG_STOPPED, and a pending GAP is stored if it has room
(10 R188, R191). That LOG_STOPPED is raised before GAP is the model's choice (Log 54). -/
def stopLog (value : Int) (s : State) : State :=
  flushGap (raise 0x0903 value { s with log := { s.log with state := .stopped, due := none } })

/-! ## Monitor Bank (08) -/

/-- An evaluated value fires an armed monitor (08 R154). -/
def Monitor.fires (m : Monitor) (v : Int) : Bool :=
  if m.falling then decide (v ≤ m.threshold) else decide (m.threshold ≤ v)

/-- An evaluated value returns a fired REARM monitor to ARMED (08 R154). -/
def Monitor.rearms (m : Monitor) (v : Int) : Bool :=
  m.rearm && (if m.falling then decide (m.threshold + (m.hysteresis : Int) ≤ v)
    else decide (v ≤ m.threshold - (m.hysteresis : Int)))

/-- One monitor is evaluated with a value (08 R152 to R154): at most one change of state. A firing is kept, to be
given on when the rule that formed the value says so (Log 5). -/
def evalMonitor (q : Quantity) (v : Int) (s : State) (k : Fin 8) : State :=
  let m := s.mon.bank.get k
  if m.enable && m.quantity == q && (m.always || s.inTest) then
    match m.state with
    | .disabled => s
    | .armed =>
      if m.fires v then
        { s with mon := { bank := s.mon.bank.set k { m with state := .fired, value := v },
                          fired := s.mon.fired ++ [(k, v)] } }
      else s
    | .fired =>
      if m.rearms v then { s with mon := { s.mon with bank := s.mon.bank.set k { m with state := .armed } } } else s
  else s

/-- Every monitor of a quantity is evaluated with its new value (08 R153). The spec gives several monitors of one
quantity no order: that they are taken in the order of their numbers, 0 to 7, is the model's choice (Log 5). -/
def evalMonitors (q : Quantity) (v : Int) (s : State) : State := indices.foldl (evalMonitor q v) s

/-! ## Motion state (04) -/

/-- The active velocity ceiling is formed again (04 R70); in TEST the integral term is clamped to it at once
(05 R97). -/
def reformCeiling (s : State) : State :=
  let c := s.ceilingNow
  { s with
    motion := { s.motion with ceiling := c }
    loop := if s.motion.state == .test then { s.loop with integ := clampMag c s.loop.integ } else s.loop }

/-- The Rate Loop becomes idle (05 R105). -/
def idleLoop (s : State) : State := { s with loop := { s.loop with mode := none, integ := 0 } }

/-- The blanking timer follows its two conditions, DRIVE_FAULT asserted and DRIVE_EN high: it starts when the second
of them becomes true and stops when either becomes false (06 R112). `before` is their conjunction before the change. -/
def followBlanking (before : Bool) (s : State) : State :=
  let now := s.driveFaultIn && s.motion.driveEn
  { s with prot := { s.prot with
      blanking := if now then (if before then s.prot.blanking else s.after (s.store.cal.blankingMs * 1000)) else none } }

/-- The drive-fault episode ends: retry count 0, off-time timer stopped (06 R115). -/
def endEpisode (s : State) : State := { s with prot := { s.prot with episode := none, offTime := none } }

/-- The motion state changes, with everything that follows the change itself: DRIVE_EN (04 R65), the demand last
sent when the pin goes low (R65), the Rate Loop when TEST is left (05 R105), the end of an episode (06 R115), the
blanking timer (06 R112) and the ceiling (04 R70). -/
def enterMotion (st : MotionState) (s : State) : State :=
  let blanked := s.driveFaultIn && s.motion.driveEn
  let en := st.enabled && s.estopClosed
  let s1 := if s.motion.state == .test && st != .test then idleLoop s else s
  let s2 := { s1 with motion := { s1.motion with
      state := st
      driveEn := en
      dest := if st == .stopping then s1.motion.dest else none
      lastDemand := if en then s1.motion.lastDemand else 0 } }
  let s3 := if st == .standby || st == .off || st == .fault then endEpisode s2 else s2
  reformCeiling (followBlanking blanked s3)

/-- The setup motion queue is emptied and the jog record cleared (04 R80, R85). -/
def clearSetup (s : State) : State :=
  { s with motion := { s.motion with queue := [], jog := none, keepalive := none } }

/-- A head segment begins: started mark set, reference X = 2,000 × P, state MOVE (04 R73). -/
def beginHead (s : State) : State :=
  match s.motion.queue with
  | [] => s
  | seg :: rest =>
    enterMotion .move { s with motion := { s.motion with
      queue := { seg with started := true } :: rest, refX := 2000 * s.position } }

end Sys2Proof.Machine
end

