-- ==== Sys2Proof/Machine/Loop.lean ====
section
/-! DEFINITION. The Rate Control Loop (05): rebasing at a phase entry, a hold and a resume, and its six steps at a
control period expiry in TEST. -/

namespace Sys2Proof.Machine

/-- The rate at which a phase runs: 0 in HOLD_POSITION (05 R90). -/
def Phase.runRate (p : Phase) : Int := if p.mode == .holdPosition then 0 else p.rate

/-- The rebase onto a phase (05 R100 steps 1 to 6), with the ceiling already formed for it. On a pending exit the
demand starts from 0 instead (R103). -/
def rebasePhase (p : Phase) (fromHold : Bool) (s : State) : State :=
  let m := s.measured p.mode
  let ff := s.feedforward p.mode p.runRate
  { s with loop := { s.loop with
      mode := some p.mode
      rate := p.runRate
      acc := 2000 * m
      target := m
      meas := m
      integ := if fromHold then 0 else clampMag s.motion.ceiling (s.motion.lastDemand - ff)
      prev := if fromHold then 0 else s.motion.lastDemand } }

/-- The rebase onto the position at the entry of HELD (05 R101). -/
def rebaseHold (s : State) : State :=
  let p := s.position
  { s with loop := { s.loop with
      mode := some .holdPosition
      rate := 0
      acc := 2000 * p
      target := p
      meas := p
      integ := clampMag s.motion.ceiling s.motion.lastDemand
      prev := s.motion.lastDemand } }

/-- The rebase at a resume with no pending exit (05 R102). -/
def rebaseResume (p : Phase) (s : State) : State :=
  let m := s.measured p.mode
  { s with loop := { s.loop with
      mode := some p.mode, rate := p.runRate, acc := 2000 * m, target := m, meas := m, integ := 0, prev := 0 } }

/-- Steps 1 to 6 of one expiry (05 R92 to R98) in a given mode. The last raw demand is kept; the candidate is
`loopCandidate`. -/
def loopStep (m : Mode) (s : State) : State :=
  let l := s.loop
  let g := l.gainsOf m
  let acc := sat64 (l.acc + (if m == .holdPosition then 0 else l.rate))
  let target := sat32 (roundDiv acc 2000)
  let meas := s.measured m
  let e := sat32 (target - meas)
  let ff := s.feedforward m l.rate
  let p := roundDiv ((g.kp : Int) * e) 65536
  let i := if s.motion.dwell then l.integ
    else clampMag s.motion.ceiling (l.integ + roundDiv ((g.ki : Int) * e) 65536)
  { s with loop := { l with acc := acc, target := target, meas := meas, err := e, pTerm := p, integ := i,
                            raw := ff + p + i } }

/-- The candidate the Rate Loop hands over: the previous demand moved toward the raw demand by at most one period's
step of amax (05 R98). -/
def State.loopCandidate (s : State) : Int := moveToward s.loop.prev s.loop.raw (periodStep s.store.cal.amax)

end Sys2Proof.Machine
end

