-- ==== Sys2Proof/Machine/Result.lean ====
section
/-! DEFINITION. The Result Engine's record (09): opening and clearing, the values formed from Fmax, the break values,
and the two steps of closing. The curve points themselves are taken in Curve.lean. -/

namespace Sys2Proof.Machine

/-- The elastic strain of a stress: round(σ × 10,000 / E) (09 R172). -/
def elasticStrain (stress : Int) (e : Nat) : Int := roundDiv (stress * 10000) (e : Int)

/-- The items of the engine that test start and the strain zero set alike (09 R169). -/
def ResultEngine.cleared (r : ResultEngine) : ResultEngine :=
  { r with fit := .isOpen, n := 0, sx := 0, sy := 0, sxy := 0, sxx := 0, e := none, proof := .waiting,
           yield := .searching, smax := none, minAll := none, minClear := none, lastPlateau := none,
           rmDecided := false, prev := none }

/-- Test start: the items set, the fracture detector armed, the record opened afresh (09 R169, R182). -/
def openResult (s : State) : State :=
  { s with result := { s.result.cleared with
      fracArmed := true, record := some (ResultRecord.opened s.strain.source) } }

/-- What the strain zero of phase 0 removes from the record (09 R169). -/
def ResultRecord.zeroed (r : ResultRecord) : ResultRecord :=
  { r with e := none, reH := none, reL := none, ae := none, rp := none,
           flags := { r.flags with rpFromCrosshead := false, fitPointsCapped := false, reLTransientOnly := false } }

/-- The strain zero of phase 0, step 6 of 02 R36 (09 R169). Ag is absent while E is absent (R176). -/
def zeroResult (s : State) : State :=
  updRecord (fun r => { r.zeroed with ag := none }) { s with result := s.result.cleared }

/-- Rm, Fmax, Agt and Ag as the Force Channel's peak gives them now (09 R176). -/
def formResults (s : State) : State :=
  let rm := sat32 (roundDiv (s.force.fmax * 100000) (s.strain.specimen.area : Int))
  updRecord (fun r => { r with
    rm := rm
    fmax := s.force.fmax
    agt := s.force.strainAtFmax
    ag := s.result.e.map (fun e => sat32 (s.force.strainAtFmax - elasticStrain rm e)) }) s

/-- ReL at the end of the plateau: the clear minimum, else the all-points minimum with RE_L_TRANSIENT_ONLY
(09 R175 step 1). -/
def setReL (s : State) : State :=
  match s.result.minClear with
  | some x => updRecord (fun r => { r with reL := some x }) s
  | none => updRecord (fun r => { r with reL := s.result.minAll, flags := { r.flags with reLTransientOnly := true } }) s

/-- The strain of ReH in the record. -/
def State.reHStrain (s : State) : Int :=
  match s.result.record with
  | some r => match r.reH with | some p => p.strain | none => 0
  | none => 0

/-- The plateau is finished: ReL, Ae measured to a strain, state DECIDED (09 R175 steps 1 to 3, R181). -/
def finishPlateau (strainAtEnd : Int) (s : State) : State :=
  let s1 := setReL s
  let s2 := updRecord (fun r => { r with ae := some (sat32 (strainAtEnd - s1.reHStrain)) }) s1
  { s2 with result := { s2.result with yield := .decided } }

/-- The Sequencer leaves RUNNING and HELD (09 R181): test time and source at end, and a plateau finished on the
points received. -/
def leaveRecord (s : State) : State :=
  let s1 := updRecord (fun r => { r with timeAtEnd := s.time.testTime, sourceAtEnd := s.strain.source }) s
  if s1.result.yield == .plateau then
    match s1.result.lastPlateau with
    | some x => finishPlateau x s1
    | none => finishPlateau s1.reHStrain s1
  else s1

/-- At COMPLETE or ABORTED (09 R181): the end reason, for ABORTED the cause, the values of R176 once more, and the
record closed. -/
def closeRecord (s : State) : State :=
  let s1 := updRecord (fun r => { r with
    endReason := s.seq.endReason
    abortCause := if s.seq.endReason == some .abort then s.seq.abortCause else none }) s
  updRecord (fun r => { r with closed := true }) (formResults s1)

/-- The fracture detector is spent and the break values are taken from the previous-point register (09 R180 steps 1
to 3). -/
def takeBreak (s : State) : State :=
  let s1 := { s with result := { s.result with fracArmed := false } }
  match s1.result.prev with
  | none => s1
  | some p => updRecord (fun r => { r with
      brk := some { strain := p.strain, force := p.force }
      af := s1.result.e.map (fun e => sat32 (p.strain - elasticStrain p.stress e)) }) s1

/-- The force of the break point as it is reported, 0 when absent (09 R180 step 4). -/
def State.breakForce (s : State) : Int :=
  match s.result.prev with
  | some p => p.force
  | none => 0

end Sys2Proof.Machine
end

