-- ==== Sys2Proof/Machine/SeqOps.lean ====
section
/-! DEFINITION. The Test Sequencer's shared operations (07): the ends of a test, the controlled stop that they wait
on (04 R80), holding, the exits and entries of phases, and test zero's strain operations (02). -/

namespace Sys2Proof.Machine

/-! ## The end of a test (07 R141 to R146) -/

/-- The phase timer stops at its count (07 R135). -/
def stopPhaseTimer (s : State) : State :=
  { s with seq := { s.seq with phaseStart := none, phaseCount := s.phaseMs } }

/-- A removal in flight is abandoned as the test leaves RUNNING and HELD (03 R56). A primary that goes to REMOVED
loses its zeroed mark (03 R63; Log 24). -/
def abandonRemoval (s : State) : State :=
  if s.ext.removal.inFlight then
    let back := s.ext.removal.mode == some .pause && s.ext.removal.strainAt.isNone
    let p := s.ext.primary
    let p' := if p.state == .lost then p
      else if back then { p with state := .active } else { p with state := .removed, zeroed := false }
    updFlags (fun f => { f with extNotConfirmed := true })
      { s with ext := { s.ext with
          primary := p', removal := { s.ext.removal with timer := .stopped, kind := some .none } } }
  else s

/-- The Sample Log is told that the test has ended (10 R189). -/
def logTestEnd (s : State) : State := if s.log.state == .running then stopLog 2 s else s

/-- Entry to COMPLETE or ABORTED by the end reason (07 R146 steps 1 to 5). -/
def enterEnd (s : State) : State :=
  let aborted := s.seq.endReason == some .abort
  let s1 := { s with seq := { s.seq with state := if aborted then .aborted else .complete }
                     ext := { s.ext with removeRequest := false } }
  let s2 := closeRecord s1
  let s3 := logTestEnd { s2 with time := { s2.time with testRunning := false } }
  if aborted then
    raise (0x0600 + (match s.seq.abortCause with | some c => causeDetail c | none => 0x60)) s.seq.abortMs s3
  else raise 0x0650 (match s.seq.endReason with | some r => endCode r | none => 0) s3

/-- The end of a controlled stop is reported to the Sequencer, which acts on it only in FINISHING (07 R146). -/
def stopEnded (s : State) : State := if s.seq.state == .finishing then enterEnd s else s

/-- A controlled stop is entered with a destination: queue and jog cleared, state STOPPING; with the demand last sent
already 0 it ends when it is entered (04 R80). -/
def enterStop (d : StopDest) (s : State) : State :=
  let s1 := clearSetup s
  if s1.motion.lastDemand = 0 then stopEnded (enterMotion d.toMotion s1)
  else enterMotion .stopping { s1 with motion := { s1.motion with dest := some d } }

/-- The Sequencer items that leave with RUNNING and HELD: the held-reason set, the pending exit, the phase timer
(07 R141 step 2, R144 step 2). That the moment HELD was last entered is dropped with them is the model's choice
(Log 61). -/
def dropHold (s : State) : State :=
  stopPhaseTimer { s with seq := { s.seq with held := HeldSet.empty, heldSince := none, pendingExit := false } }

/-- A test goes to FINISHING (07 R141); `brk` is the force of the break point for a fracture. The stop of step 4 that
ends as it is entered ends the test before the FRACTURE of step 5 is raised (Log 8). -/
def finish (r : EndReason) (brk : Int) (s : State) : State :=
  let s1 := dropHold { s with seq := { s.seq with endReason := some r } }
  let s2 := abandonRemoval (leaveRecord { s1 with seq := { s1.seq with state := .finishing } })
  let s3 := if s2.motion.state == .test then enterStop .standby s2 else s2
  if r == .fracture then raise 0x0640 brk s3 else s3

/-- A fracture is reported to the Sequencer (07 R142); FRACTURED goes high (08 R165). -/
def reportFracture (brk : Int) (s : State) : State :=
  if s.inTest then finish .fracture brk { s with seq := { s.seq with fractured := true } } else s

/-- A running or held test is aborted (07 R144 steps 1 to 5). -/
def abortRunning (c : AbortCause) (s : State) : State :=
  let s1 := dropHold { s with seq := { s.seq with
    endReason := some .abort, abortCause := some c, abortMs := s.testMs } }
  let s2 := abandonRemoval (leaveRecord s1)
  let s3 := if s2.motion.state == .test then enterStop .standby s2 else s2
  if s3.motion.state == .stopping then { s3 with seq := { s3.seq with state := .finishing } } else enterEnd s3

/-- A cause taken while FINISHING (07 R144): the first cause is kept, and the test ends ABORTED. -/
def abortFinishing (c : AbortCause) (s : State) : State :=
  let s1 := { s with seq := { s.seq with
    endReason := some .abort
    abortCause := if s.seq.abortCause.isSome then s.seq.abortCause else some c
    abortMs := if s.seq.abortCause.isSome then s.seq.abortMs else s.testMs } }
  if s1.motion.state == .fault || s1.motion.state == .off then enterEnd s1 else s1

/-- An armed test leaves ARMED for IDLE (07 R129, R130). -/
def disarm (c : AbortCause) (value : Int) (s : State) : State :=
  raise (0x0600 + causeDetail c) value { s with seq := { s.seq with state := .idle, armedTrigger := none } }

/-- An abort cause reaches the Sequencer (07 R144, R130). -/
def abortCause (c : AbortCause) (s : State) : State :=
  match s.seq.state with
  | .armed => disarm c 0 s
  | .running => abortRunning c s
  | .held => abortRunning c s
  | .finishing => abortFinishing c s
  | .idle => s
  | .complete => s
  | .aborted => s

/-! ## Holding (07 R136) -/

/-- A reason joins the held-reason set (07 R136); in any state but RUNNING and HELD none can. -/
def joinHeld (r : HeldReason) (s : State) : State :=
  match s.seq.state with
  | .running =>
    let h := s.seq.held.add r
    let s1 := rebaseHold { s with seq := { s.seq with held := h, heldSince := some s.time.crystal, state := .held } }
    raise (0x0600 + heldDetail r) h.count s1
  | .held =>
    if s.seq.held.has r then s
    else
      let h := s.seq.held.add r
      raise (0x0600 + heldDetail r) h.count { s with seq := { s.seq with held := h } }
  | .idle => s
  | .armed => s
  | .finishing => s
  | .complete => s
  | .aborted => s

/-! ## Strain at test zero, strain zero and hand-over (02) -/

/-- The crosshead strain from the force last published, the present position and P0 (02 R28); 0 with Lc = 0 (R23). -/
def State.crossheadStrain (s : State) : Int :=
  let c := roundDiv ((s.store.cal.compliance : Int) * s.force.f) 100000
  let d := s.position - s.strain.p0 - c
  if s.strain.specimen.lc = 0 then 0 else sat32 (roundDiv (d * 10000) (s.strain.specimen.lc : Int))

/-- The crosshead strain is formed and handed to its monitors (02 R28, 08 R153). -/
def formCrosshead (s : State) : State :=
  let x := s.crossheadStrain
  evalMonitors .crossheadStrain x { s with strain := { s.strain with epsC := x } }

/-- The active strain takes a reading plus S, saturated, and is handed to its monitors (02 R29, 08 R153). -/
def formActive (reading : Int) (s : State) : State :=
  let a := sat32 (reading + s.strain.stitch)
  evalMonitors .strain a { s with strain := { s.strain with active := a } }

/-- The present reading of a source (02 R33 step 2). -/
def State.reading (s : State) : Source → Int
  | .primary => s.ext.primary.strain
  | .secondary => s.ext.secondary.strain
  | .crosshead => s.strain.epsC

/-- An extensometer's latest raw reading becomes its zero (02 R36 step 2). -/
def zeroAtRaw (e : Ext) : Ext := { e with zero := e.raw, elong := 0, strain := 0 }

/-- The strain zero of phase 0 (02 R36), with the slip tracker's part (03 R59). The firings of its two evaluations are
given on by `enterNext` as soon as its steps are done (Log 5). -/
def strainZero (s : State) : State :=
  let s1 := { s with strain := { s.strain with p0 := s.position, stitch := 0 } }
  let s2 := match s.strain.source with
    | .primary => { s1 with ext := { s1.ext with primary := zeroAtRaw s1.ext.primary } }
    | .secondary => { s1 with ext := { s1.ext with secondary := zeroAtRaw s1.ext.secondary } }
    | .crosshead => s1
  let s3 := formCrosshead s2
  let s4 := formActive (s3.reading s3.strain.source) s3
  zeroResult { s4 with ext := { s4.ext with slipM := 0, slipX := s4.strain.epsC } }

/-! ## Phases (07 R132 to R135) -/

/-- The entry of the current phase, steps 1 to 4 (07 R133): ceiling, rebase, phase timer, PHASE_ENTERED. A test that a
removal has put in HELD while its exit was being taken goes on holding position: the hold's rebase stands (R133, last
paragraph; 05 R101; Log 5). No rebase of the phase reads a measured value there, and R133 gives PHASE_ENTERED no other
value: the model sends the value that the phase's own mode measures at that moment, which is its choice (Log 5). -/
def enterPhase (fromHold : Bool) (s : State) : State :=
  let s1 := reformCeiling s
  let s2 := if s1.seq.state == .held then s1 else rebasePhase s1.curPhase fromHold s1
  raise (0x0610 + s2.seq.phase.val) (s2.measured s2.curPhase.mode)
    { s2 with seq := { s2.seq with phaseStart := some s2.time.crystal } }

/-- The number after a phase index; the last stays (a phase index is at most 7). -/
def nextIndex (k : Fin 8) : Fin 8 := if h : k.val + 1 < 8 then ⟨k.val + 1, h⟩ else k

/-- An exit leads into the next phase (07 R133). `give` gives on the firings kept by the Monitor Bank, here and below (08
R154); those of the strain zero are given on before the phase index moves, as firings of an exit under way (`give true`),
which cannot meet that same exit again (Log 5). -/
def enterNext (give : Bool → State → State) (fromHold : Bool) (s : State) : State :=
  let s1 := if s.seq.phase == 0 && s.seq.method.strainZero then give true (strainZero s) else s
  enterPhase fromHold { s1 with seq := { s1.seq with phase := nextIndex s1.seq.phase } }

/-- The exit of the current phase is taken (07 R133): past the last phase to FINISHING, else into the next phase and
on through every exit that holds at its entry. `fuel` bounds the chain: phase indices strictly increase, so eight exits
are the most. -/
def takeExit (give : Bool → State → State) : Nat → Bool → State → State
  | 0, _, s => s
  | fuel + 1, fromHold, s =>
    if s.seq.method.phaseCount ≤ s.seq.phase.val + 1 then finish .lastPhase 0 s
    else
      let s1 := enterNext give fromHold s
      if !s1.exitHolds then s1
      else if s1.seq.state == .held then { s1 with seq := { s1.seq with pendingExit := true } }
      else takeExit give fuel false s1

/-- An exit is taken with every exit that holds at the entries it leads to (07 R133). -/
def leavePhase (give : Bool → State → State) (fromHold : Bool) (s : State) : State := takeExit give 8 fromHold s

/-- The exit of the current phase is met (07 R132): taken at once in RUNNING, pending in HELD. -/
def exitMet (give : Bool → State → State) (s : State) : State :=
  match s.seq.state with
  | .running => leavePhase give false s
  | .held => { s with seq := { s.seq with pendingExit := true } }
  | .idle => s
  | .armed => s
  | .finishing => s
  | .complete => s
  | .aborted => s

/-- A block tells the Sequencer that a condition of a kind has come about (07 R132). -/
def tellExit (give : Bool → State → State) (k : ExitKind) (s : State) : State :=
  if s.curPhase.exit == k then exitMet give s else s

/-- The held-reason set has lost a member (07 R139): when it is empty while HELD, the test resumes, takes its pending
exit, or finishes. R139 does not say that the moment HELD was last entered is dropped then: the model drops it, which no
report shows (Log 61). -/
def heldLeft (give : Bool → State → State) (s : State) : State :=
  if s.seq.state == .held && s.seq.held.count == 0 then
    let since := match s.seq.heldSince with | some t => t | none => s.time.crystal
    let ms : Nat := min 2147483647 ((s.time.crystal - since) / 1000)
    let s1 := { s with seq := { s.seq with pendingExit := false, heldSince := none } }
    if s.seq.pendingExit then
      if s.seq.method.phaseCount ≤ s.seq.phase.val + 1 then finish .lastPhase 0 s1
      else leavePhase give true (raise 0x0630 ms { s1 with seq := { s1.seq with state := .running } })
    else raise 0x0630 ms (rebaseResume s1.curPhase { s1 with seq := { s1.seq with state := .running } })
  else s

/-! ## Hand-over (02 R33, R34) -/

/-- The Strain Channel takes a hand-over order (02 R33): the active strain is stitched onto the new source, the firings
of its re-formation are given on at once (08 R154), HANDOVER is raised, and the Sequencer is told of a hand-over to
CROSSHEAD at that moment (07 R132). A source not after the active one changes nothing (02 R34). -/
def handOver (give : Bool → State → State) (new : Source) (s : State) : State :=
  if sourceCode s.strain.source < sourceCode new then
    let l := s.strain.active
    let r := s.reading new
    let s1 := give false (formActive r { s with strain := { s.strain with stitch := l - r, source := new } })
    let s2 := raise (0x0300 + sourceCode new) l s1
    if new == .crosshead then tellExit give .handoverDone s2 else s2
  else s

/-! ## Protective orders to motion (04 R85) -/

/-- An immediate fault: DRIVE_EN low and the demand 0 at once, queue and jog cleared, state FAULT (04 R85). -/
def immediateFault (s : State) : State := enterMotion .fault (clearSetup s)

/-- A stopped fault (04 R85): a controlled stop with destination FAULT; in OFF, RETRY_WAIT and FAULT the state is
FAULT at once; a stop in progress has its destination raised (R80). 06 R111 has the demand last sent at 0 in STANDBY; where
it is not yet, between a move's end and the next word, the stop is a ramp as from any other demand: the model's choice
(Log 58). -/
def stoppedFault (s : State) : State :=
  match s.motion.state with
  | .off => enterMotion .fault (clearSetup s)
  | .retryWait => enterMotion .fault (clearSetup s)
  | .fault => enterMotion .fault (clearSetup s)
  | .stopping => { s with motion := { s.motion with dest := some .fault } }
  | .standby => enterStop .fault s
  | .move => enterStop .fault s
  | .jog => enterStop .fault s
  | .test => enterStop .fault s

/-- A setup stop: a HOLD action taken outside RUNNING and HELD (04 R81). -/
def setupStop (s : State) : State :=
  let n : Int := s.motion.queue.length
  match s.motion.state with
  | .move => raise 0x0405 n (enterStop .standby s)
  | .jog => raise 0x0405 0 (enterStop .standby (endEpisode s))
  | .standby => if s.motion.waitingHead.isSome then raise 0x0405 n (clearSetup s) else s
  | .retryWait => raise 0x0405 n (enterMotion .off (clearSetup s))
  | .off => s
  | .test => s
  | .stopping => s
  | .fault => s

end Sys2Proof.Machine
end

