-- ==== Sys2Proof/Machine/ExtOps.lean ====
section
/-! DEFINITION. The Extensometer Handler's operations (03): hand-over orders, the two kinds of removal, their
confirmation and expiry, monitor firings given on (08 R154), link changes, and the parts of taking a reading. -/

namespace Sys2Proof.Machine

/-- One extensometer is changed. -/
def updExt (x : ExtNo) (g : Ext → Ext) (s : State) : State := { s with ext := s.ext.set x (g (s.ext.get x)) }

/-- The removal record is changed. -/
def updRemoval (g : RemovalRecord → RemovalRecord) (s : State) : State :=
  { s with ext := { s.ext with removal := g s.ext.removal } }

/-- An extensometer leaves the test with its zeroed mark cleared (03 R49, R52, R58, R60; Log 24). -/
def Ext.leave (st : ExtState) (e : Ext) : Ext := { e with state := st, zeroed := false }

/-- The primary goes to REMOVED unless it is LOST (03 R49 step 6). -/
def removePrimary (s : State) : State :=
  updExt .primary (fun e => if e.state == .lost then e else e.leave .removed) s

/-! ## Hand-over orders (03 R57) -/

/-- The next source away from an extensometer, chosen at the moment of the order (03 R57). -/
def State.nextSource (s : State) : ExtNo → Source
  | .primary => if s.ext.secondary.state == .ready then .secondary else .crosshead
  | .secondary => .crosshead

/-- A hand-over away from an extensometer is ordered, in RUNNING and HELD only (03 R57): a secondary that is named
becomes ACTIVE, and away from the primary the strain at hand-over is recorded. -/
def orderHandover (give : Bool → State → State) (x : ExtNo) (s : State) : State :=
  if s.inTest then
    let new := s.nextSource x
    let s1 := if new == .secondary then updExt .secondary (fun e => { e with state := .active }) s else s
    let s2 := match x with
      | .primary =>
        updRecord (fun r => { r with removal := some s.strain.active })
          (updRemoval (fun r => { r with strainAt := some s.strain.active }) s1)
      | .secondary => s1
    handOver give new s2
  else s

/-! ## Removals (03 R47 to R56) -/

/-- The code of a confirmation kind in REMOVAL_CONFIRMED (03 R49 step 7). -/
def confirmationCode : Confirmation → Int
  | .armsInput => 1
  | .hostConfirm => 2
  | .none => 0
  | .timeout => 0

/-- A removal in flight is confirmed (03 R49 for PAUSE, R52 for FLY). -/
def confirmRemoval (give : Bool → State → State) (kind : Confirmation) (s : State) : State :=
  match s.ext.removal.mode with
  | none => s
  | some .pause =>
    let s1 := if s.ext.removal.strainAt.isNone then orderHandover give .primary s else s
    let s2 := updRemoval (fun r => { r with timer := .stopped, kind := some kind })
      { s1 with ext := { s1.ext with removeRequest := false } }
    let s3 := heldLeft give { s2 with seq := { s2.seq with held := { s2.seq.held with removal := false } } }
    raise 0x0331 (confirmationCode kind) (removePrimary s3)
  | some .fly =>
    let s1 := updRemoval (fun r => { r with timer := .stopped, kind := some kind })
      { s with ext := { s.ext with removeRequest := false } }
    raise 0x0331 (confirmationCode kind) (removePrimary s1)

/-- The removal record at the start of a removal (03 R48 step 2, R51 step 3). -/
def beginRemoval (mode : RemovalMode) (s : State) : State :=
  updRemoval (fun r => { r with
    mode := some mode
    requestTime := some s.time.testTime
    edges := 0
    timer := .running (s.time.testTime + s.seq.method.timeout * 1000000) }) s

/-- REMOVE_REQUEST is asserted and REMOVE_REQUESTED raised with the active strain at the start of the removal (03 R48,
R51, steps 4 and 5; R62); arms already open confirm the removal at once. -/
def askRemoval (give : Bool → State → State) (strain : Int) (s : State) : State :=
  let s1 := raise 0x0330 strain { s with ext := { s.ext with removeRequest := true } }
  if s1.armsOpen then confirmRemoval give .armsInput s1 else s1

/-- A PAUSE removal starts (03 R48). -/
def startPause (give : Bool → State → State) (s : State) : State :=
  askRemoval give s.strain.active
    (joinHeld .removal (beginRemoval .pause (updExt .primary (fun e => { e with state := .removing }) s)))

/-- A removal whose own hand-over has ended the test is abandoned as its start is completed (03 R56; Log 7). -/
def abandonIfOver (s : State) : State :=
  if s.inTest then s
  else
    let s1 := abandonRemoval s
    if s1.seq.state == .finishing then s1 else { s1 with ext := { s1.ext with removeRequest := false } }

/-- A FLY removal starts (03 R51). Its hand-over can take an exit of the test at once (07 R132; Log 7). -/
def startFly (give : Bool → State → State) (s : State) : State :=
  abandonIfOver (askRemoval give s.strain.active (beginRemoval .fly
    (updExt .primary (fun e => { e with state := .removing }) (orderHandover give .primary s))))

/-- An event that can meet the removal condition reaches the Handler (03 R47). A test has at most one removal (R46), so
none starts once one has ended. ACTIVE is the active source (03 R40): a firing on the strain that a hand-over away from the
primary has just re-formed starts no removal (Log 7). -/
def removalCondition (give : Bool → State → State) (c : RemovalCond) (s : State) : State :=
  if s.inTest && s.ext.removal.cond == some c && s.ext.removal.kind.isNone && s.ext.primary.state == .active &&
      s.strain.source == .primary then
    match s.ext.removal.policy with
    | .none => s
    | .pause => startPause give s
    | .fly => startFly give s
  else s

/-! ## Firings (08 R154) -/

/-- A firing is given to the Sequencer, then to the Handler, and FIRED(m) is raised (08 R154 steps 2 to 5). A firing of
the strain zero comes in the middle of the exit that the zero is part of, and does not meet that exit (Log 5). -/
def giveFiring (give : Bool → State → State) (inExit : Bool) (m : Fin 8) (v : Int) (s : State) : State :=
  let s1 := if !inExit && s.curPhase.exit == .monitor && s.curPhase.arg == m.val then exitMet give s else s
  raise (0x0800 + m.val) v (removalCondition give (.monitor m) s1)

/-- The firings kept by the Monitor Bank are given on, oldest first; those that one of them brings about on its way are
given on within it. `inExit`: the exit of the phase is under way. One strain zero and two hand-overs are all that can
evaluate monitors again in a test, so the last case is not reached from `giveFirings`. -/
def giveKept : Nat → Bool → State → State
  | 0, _, s => { s with mon := { s.mon with fired := [] } }
  | fuel + 1, inExit, s =>
    s.mon.fired.foldl (fun t f => giveFiring (fun e => giveKept fuel (inExit || e)) inExit f.1 f.2 t)
      { s with mon := { s.mon with fired := [] } }

/-- Every firing kept by the Monitor Bank is given on (08 R154; Log 5). -/
def giveFirings (inExit : Bool) (s : State) : State := giveKept 8 inExit s

/-- The removal timer expires (03 R50, R52). -/
def expireRemoval (s : State) : State :=
  if s.ext.removal.inFlight then
    match s.ext.removal.mode with
    | none => s
    | some .pause =>
      raise 0x0332 s.ext.removal.edges (updFlags (fun f => { f with removalTimeout := true })
        (updRemoval (fun r => { r with timer := .expired }) s))
    | some .fly =>
      let s1 := updFlags (fun f => { f with removalTimeout := true })
        (updRemoval (fun r => { r with timer := .expired, kind := some .timeout })
          { s with ext := { s.ext with removeRequest := false } })
      raise 0x0332 s.ext.removal.edges (removePrimary s1)
  else s

/-! ## Zeroing (03 R44, R45) -/

/-- A zeroing operation in flight fails with a cause (03 R45). -/
def failZero (x : ExtNo) (cause : Int) (s : State) : State :=
  if (s.ext.get x).op.isSome then
    raise (0x0320 + extNo x) cause (updExt x (fun e => { e with op := none }) s)
  else s

/-- EXT_ARMS_OPEN changes (03 R45, R49, R52, R54): a zeroing of the primary fails, the change is counted, and an
assertion confirms. -/
def armsChange (asserted : Bool) (s : State) : State :=
  let s1 := if asserted then failZero .primary 3 s else s
  if s1.ext.removal.inFlight then
    let s2 := updRemoval (fun r => { r with edges := min 255 (r.edges + 1) }) s1
    if asserted && s2.ext.removal.timer != .expired then confirmRemoval giveFirings .armsInput s2 else s2
  else s1

/-! ## Link changes (03 R40, R45, R60, R61) -/

/-- An extensometer that takes part in the test loses its link with a hand-over (03 R60, R61). The value of EXT_LOST is
the active strain that the hand-over keeps (02 R33). -/
def loseWithHandover (x : ExtNo) (s : State) : State :=
  raise (0x0360 + extNo x) s.strain.active
    (updFlags (fun f => { f with extLost := true }) (updExt x (Ext.leave .lost) (orderHandover giveFirings x s)))

/-- The link of an extensometer leaves LOCKED, by its state (03 R40, R60, R61). -/
def extUnlocked (x : ExtNo) (s : State) : State :=
  let e := s.ext.get x
  match e.state with
  | .absent => s
  | .unzeroed => updExt x (fun e => { e with state := .absent }) s
  | .ready => updExt x (fun e => { e with state := .absent }) s
  | .active =>
    if s.inTest then loseWithHandover x s
    else raise (0x0360 + extNo x) e.strain (updExt x (Ext.leave .lost) s)
  | .removing =>
    if s.ext.removal.mode == some .pause then
      if s.ext.removal.strainAt.isNone then loseWithHandover x s
      else
        raise (0x0360 + extNo x) e.strain
          (updFlags (fun f => { f with extLost := true }) (updExt x (Ext.leave .lost) s))
    else s
  | .removed => s
  | .lost => s

/-- The link of an extensometer becomes LOCKED (03 R40). -/
def extLockedNow (x : ExtNo) (s : State) : State :=
  match (s.ext.get x).state with
  | .absent => updExt x (fun e => { e with state := derivedExtState true e.zeroed }) s
  | .unzeroed => s
  | .ready => s
  | .active => s
  | .removing => s
  | .removed => s
  | .lost => s

/-- A change of lock of SLR1 or SLR2 reaches the Handler (01 R7). -/
def extLinkChange (x : ExtNo) (locked : Bool) (s : State) : State :=
  if locked then extLockedNow x s else extUnlocked x (failZero x 1 s)

/-! ## A reading (03 R39) -/

/-- Elongation and strain of a raw reading under a zero (03 R39 step 2); strain 0 while the gauge length is 0 (02 R23). -/
def State.convertExt (s : State) (x : ExtNo) (zero raw : Int) : Int × Int :=
  let dl := sat32 (roundDiv ((raw - zero) * s.extPitch x) 256)
  (dl, if s.gauge x = 0 then 0 else sat32 (roundDiv (dl * 10000) (s.gauge x : Int)))

/-- A raw reading is converted and becomes the latest (03 R39 step 2). -/
def takeRaw (x : ExtNo) (raw : Int) (s : State) : State :=
  updExt x (fun e => { e with raw := raw, elong := (s.convertExt x e.zero raw).1,
                              strain := (s.convertExt x e.zero raw).2 }) s

/-- A converted reading is applied to a zeroing in flight; the sixteenth ends it (03 R44). -/
def applyZeroing (x : ExtNo) (raw : Int) (s : State) : State :=
  match (s.ext.get x).op with
  | none => s
  | some op =>
    if op.count + 1 < 16 then
      updExt x (fun e => { e with op := some { count := op.count + 1, sum := op.sum + raw } }) s
    else
      let z := roundDiv (op.sum + raw) 16
      let s1 := takeRaw x raw (updExt x (fun e => { e with zero := z, zeroed := true, state := .ready }) s)
      updExt x (fun e => { e with op := none }) (raise (0x0310 + extNo x) z s1)

/-- The range guard is tested at readings of the extensometer that is the active source of a test (03 R58). -/
def State.guarded (s : State) (x : ExtNo) : Bool :=
  s.inTest &&
    ((s.ext.get x).state == .active ||
     (x == .primary && s.ext.primary.state == .removing && s.ext.removal.mode == some .pause &&
      s.ext.removal.strainAt.isNone))

/-- A reading meets the range guard: RANGE_GUARD, then the action by extensometer and state (03 R58). -/
def guardAction (x : ExtNo) (raw : Int) (s : State) : State :=
  let s1 := raise (0x0350 + extNo x) raw s
  match x with
  | .primary =>
    if s1.ext.primary.state == .active then startFly giveFirings s1 else orderHandover giveFirings .primary s1
  | .secondary => updExt .secondary (Ext.leave .removed) (orderHandover giveFirings .secondary s1)

/-- The range guard is tested on a reading (03 R39 step 3, R58). -/
def testGuard (x : ExtNo) (flag : Bool) (raw : Int) (s : State) : State :=
  if s.guarded x && s.guardMet x flag raw then guardAction x raw s else s

/-- The strain of a converted reading is passed on: to the Strain Channel where the extensometer is the source, and
to the monitors of its own quantity (03 R39 step 4, 02 R29). -/
def passOn (x : ExtNo) (s : State) : State :=
  let e := (s.ext.get x).strain
  let s1 := if s.strain.source == extSource x then formActive e s else s
  evalMonitors (match x with | .primary => .primaryStrain | .secondary => .secondaryStrain) e s1

/-- The slip test on a converted primary reading passed on (03 R59). Where a firing on the same reading has taken the
strain zero of phase 0, the strain tested is the latest, as zeroed; and where one has started a removal or ended the test,
the three conditions, read here, no longer hold. The spec leaves both open (Log 52). -/
def testSlip (s : State) : State :=
  let e := s.ext.primary.strain
  if s.ext.primary.state == .active && s.inTest && s.seq.method.slip != 0 then
    if s.ext.slipM < e then { s with ext := { s.ext with slipM := e, slipX := s.strain.epsC } }
    else if (s.seq.method.slip : Int) < s.ext.slipM - e && decide (s.ext.slipX < s.strain.epsC) then
      let s1 := raise 0x0340 (s.ext.slipM - e) s
      { s1 with ext := { s1.ext with slipM := e, slipX := s1.strain.epsC } }
    else s
  else s

end Sys2Proof.Machine
end

