-- ==== Sys2Proof/Machine/Router.lean ====
section
/-! DEFINITION. Events are routed (08 R158 to R160, R166), and the transmit arbiter takes its next frame (11 R202).
`settle` is what every arrival ends with (Log 4). -/

namespace Sys2Proof.Machine

/-! ## Routing (08 R158 to R160) -/

/-- An entry matches a code: enabled, and the leading bits equal to the compared length (08 R158). -/
def Route.hits (r : Route) (code : Nat) : Bool :=
  r.enable && code / 2 ^ (16 - r.len) == r.code / 2 ^ (16 - r.len)

/-- The entries that match a code, in the order of their numbers. -/
def State.matches (s : State) (code : Nat) : List Route := s.router.routes.toList.filter (fun r => r.hits code)

/-- The event is NOTIFY as the matching entry of highest index says, and where none matches (08 R158). -/
def isNotify (hits : List Route) : Bool :=
  match hits.getLast? with
  | some r => !r.silent
  | none => true

/-- An event record is offered to the notice queue (08 R160). -/
def offerNotice (e : EventRecord) (s : State) : State :=
  if s.router.notices.length < Config.noticeCapacity then
    { s with router := { s.router with
        notices := s.router.notices ++ [{ e with lost := s.router.lost }], lost := 0 } }
  else { s with router := { s.router with lost := satU16 (s.router.lost + 1) } }

/-- A HOLD action (08 R159): ROUTE joins the held-reason set of a test, else a setup stop. 06 R122 speaks of a HOLD on a
protective event that adds ROUTE to the set of the test which the fault is ending; but R108 hands the cause to the Sequencer
in step 3 and raises the event in step 4, so that test has left RUNNING and HELD when the event is routed, and by 07 R136,
R137 and 08 R159 no reason joins. There the model takes the setup stop and adds no ROUTE: the model's choice (Log 59). -/
def holdAction (s : State) : State := if s.inTest then joinHeld .route s else setupStop s

/-- One line takes a pulse: its source level goes high and its timer starts afresh (08 R166). -/
def pulseLine (s : State) (k : Fin 8) : State :=
  let o := s.outs.get k
  if o.source == .pulse then
    { s with outs := s.outs.set k { o with pulse := s.after (o.width * 1000) } }
  else s

/-- The lines of a mask take a pulse. -/
def pulseLines (mask : Byte) (s : State) : State :=
  indices.foldl (fun t k => if mask.getLsbD k.val then pulseLine t k else t) s

/-- The pulse masks of the matching entries together (08 R158). -/
def unionMask (hits : List Route) : Byte := hits.foldl (fun m r => m ||| r.mask) 0

/-- One event is routed whole (08 R158, R159). R159 gives the combined actions of one event no order. The model takes the
notice, the MARK, the HOLD and the pulses in this order: the MARK of an event with both actions is stored before the HOLD
acts, so that its held flag shows the test as it was, and a GAP that the MARK raises precedes HELD(ROUTE) or SETUP_STOPPED.
That order is the model's choice (Log 60). -/
def routeEvent (e : EventRecord) (s : State) : State :=
  let hits := s.matches e.code
  let s1 := if isNotify hits then offerNotice e s else s
  let s2 := if hits.any (fun r => r.mark) then markLog e.code e.value s1 else s1
  let s3 := if hits.any (fun r => r.hold) then holdAction s2 else s2
  pulseLines (unionMask hits) s3

/-- The Router takes the raised events in their order, with those that the routing raises. The fuel given by
`drainEvents` is not spent, so the first case is not reached. -/
def drainFuel : Nat → State → State
  | 0, s => { s with router := { s.router with raised := [] } }
  | fuel + 1, s =>
    match s.router.raised with
    | [] => s
    | e :: rest => drainFuel fuel (routeEvent e { s with router := { s.router with raised := rest } })

/-- The Router takes every raised event. Routing itself raises at most HELD(ROUTE), SETUP_STOPPED and GAP, once each,
and where a setup stop ends a finishing test the two events of that end. -/
def drainEvents (s : State) : State := drainFuel (s.router.raised.length + 8) s

/-! ## Transmit arbiter (11 R202) -/

/-- Records leave the ring head, at most `n`; a pending GAP then takes the freed slot (10 R191, R193). -/
def dropRing (n : Nat) (s : State) : State :=
  let s1 := { s with log := { s.log with ring := s.log.ring.drop n } }
  if s.log.ring.isEmpty then s1 else flushGap s1

/-- The arbiter takes a frame when the line is idle: a reply, else a notice, else a batch; only replies while a reset
is waiting (11 R202, R210). A reply being sent stays at the head of its queue (Log 20). -/
def transmit (s : State) : State :=
  if s.host.tx != .idle then s
  else if !s.host.replies.isEmpty then { s with host := { s.host with tx := .reply } }
  else if s.host.resetPending.isSome then s
  else match s.router.notices with
    | e :: rest =>
      { s with router := { s.router with notices := rest }, host := { s.host with tx := .notice e } }
    | [] =>
      if s.log.stream && !s.log.ring.isEmpty then
        dropRing 8 { s with host := { s.host with tx := .batch (s.log.ring.take 8) } }
      else s

/-- The end of an arrival: events routed, the arbiter, and the events of a batch's departure (Log 4). INIT is no
exception: the link events raised while it lasts are routed, noticed and sent (Log 13). -/
def settle (s : State) : State := drainEvents (transmit (drainEvents s))

end Sys2Proof.Machine
end

