-- ==== Sys2Proof/Machine/Curve.lean ====
section
/-! DEFINITION. The Result Engine takes a curve point (09 R168): fracture test, modulus fit, proof search, yield
detector, Rm decision, formation of Rm, Agt and Ag, previous-point register. -/

namespace Sys2Proof.Machine

/-- ReH in the record. -/
def State.reHStress (s : State) : Int :=
  match s.result.record with
  | some r => match r.reH with | some p => p.stress | none => 0
  | none => 0

/-- A decision on the proof search is handed to the Sequencer, then to the Handler (09 R172, R173). -/
def tellProof (s : State) : State := removalCondition giveFirings .afterProof (tellExit giveFirings .proofDecided s)

/-! ## Modulus fit (09 R170, R171) -/

/-- A point within the fit bounds is accumulated, up to 8,192 of them (09 R170). -/
def accumulate (p : CurvePoint) (s : State) : State :=
  let r := s.result
  if r.n < Config.fitCapacity then
    { s with result := { r with n := r.n + 1, sx := r.sx + p.strain, sy := r.sy + p.stress,
                                sxy := r.sxy + p.strain * p.stress, sxx := r.sxx + p.strain * p.strain } }
  else updFlags (fun f => { f with fitPointsCapped := true }) s

/-- The fit fails: the proof search is decided absent, the decision handed on, the event raised (09 R171, R173). -/
def failFit (code : Nat) (value : Int) (s : State) : State :=
  raise code value (tellProof { s with result := { s.result with fit := .failed, proof := .absent } })

/-- The slope of the least-squares line in MPa (09 R171). -/
def ResultEngine.slope (r : ResultEngine) : Int :=
  roundDiv (10000 * ((r.n : Int) * r.sxy - r.sx * r.sy)) ((r.n : Int) * r.sxx - r.sx * r.sx)

/-- The fit closes (09 R171). An E of 0 is no modulus and is implausible (02 R23; Log 30). -/
def closeFit (s : State) : State :=
  let r := s.result
  let e := r.slope
  if r.n < 8 then failFit 0x0711 r.n s
  else if (r.n : Int) * r.sxx - r.sx * r.sx ≤ 0 then failFit 0x0712 r.n s
  else if 1 ≤ e && (s.strain.specimen.eMin : Int) ≤ e && e ≤ (s.strain.specimen.eMax : Int) then
    raise 0x0701 e (updRecord (fun q => { q with e := some e.toNat })
      { s with result := { r with fit := .done, e := some e.toNat, proof := .isOpen } })
  else failFit 0x0713 e s

/-- The modulus fit's part of a point (09 R170, R171). -/
def fitStep (p : CurvePoint) (s : State) : State :=
  if s.result.fit != .isOpen then s
  else if (s.seq.method.fitUpper : Int) < p.stress then closeFit s
  else if (s.seq.method.fitLower : Int) ≤ p.stress then accumulate p s
  else s

/-! ## Proof search (09 R172) -/

/-- The plastic strain of a point (09 R172). -/
def plasticStrain (stress strain : Int) (e : Nat) : Int := strain - elasticStrain stress e

/-- Rp and its strain, interpolated between the point in the register and the current point (09 R172); the current
point's own where the register is empty or already meets the offset. -/
def interpolateRp (prev : Option CurvePoint) (p : CurvePoint) (e : Nat) (offset : Int) : StressStrain :=
  match prev with
  | none => { stress := p.stress, strain := p.strain }
  | some q =>
    let a := plasticStrain q.stress q.strain e
    let b := plasticStrain p.stress p.strain e
    if offset ≤ a then { stress := p.stress, strain := p.strain }
    else { stress := sat32 (q.stress + roundDiv ((p.stress - q.stress) * (offset - a)) (b - a))
           strain := sat32 (q.strain + roundDiv ((p.strain - q.strain) * (offset - a)) (b - a)) }

/-- The proof search's part of a point (09 R172). -/
def proofStep (p : CurvePoint) (s : State) : State :=
  match s.result.proof, s.result.e with
  | .isOpen, some e =>
    if (s.seq.method.proofOffset : Int) ≤ plasticStrain p.stress p.strain e then
      let rp := interpolateRp s.result.prev p e s.seq.method.proofOffset
      let s1 := updRecord (fun r => { r with rp := some rp })
        { s with result := { s.result with proof := .found } }
      let s2 := if p.source == .crosshead then updFlags (fun f => { f with rpFromCrosshead := true }) s1 else s1
      raise 0x0730 rp.stress (tellProof s2)
    else s
  | .isOpen, none => s
  | .waiting, _ => s
  | .found, _ => s
  | .absent, _ => s

/-! ## Yield detector (09 R174, R175) -/

/-- The running maximum stress after a point (09 R174). -/
def trackMax (m : Option StressStrain) (p : CurvePoint) : StressStrain :=
  match m with
  | none => { stress := p.stress, strain := p.strain }
  | some a => if a.stress < p.stress then { stress := p.stress, strain := p.strain } else a

/-- The lesser of a minimum, empty at first, and a value. -/
def minInto (m : Option Int) (x : Int) : Option Int :=
  match m with
  | none => some x
  | some a => some (min a x)

/-- A plateau point enters the minima (09 R175). -/
def enterMinima (p : CurvePoint) (s : State) : State :=
  let clear := decide (s.reHStrain + (s.seq.method.transient : Int) < p.strain)
  { s with result := { s.result with
      minAll := minInto s.result.minAll p.stress
      minClear := if clear then minInto s.result.minClear p.stress else s.result.minClear
      lastPlateau := some p.strain } }

/-- A yield point is found (09 R174 test 1): ReH, state PLATEAU, and the point as the first plateau point. R175 tests
each plateau point for the plateau's end and has the minimum over all points exist from this point on: the model enters
this one without that test, also where its strain is already past the limit (Log 62). -/
def yieldPoint (m : StressStrain) (p : CurvePoint) (s : State) : State :=
  raise 0x0720 m.stress (enterMinima p (updRecord (fun r => { r with reH := some m })
    { s with result := { s.result with yield := .plateau } }))

/-- ReL in the record. -/
def State.reL (s : State) : Int :=
  match s.result.record with
  | some r => match r.reL with | some x => x | none => 0
  | none => 0

/-- A point in PLATEAU (09 R175): the end of the plateau, or a further plateau point. -/
def plateauStep (p : CurvePoint) (s : State) : State :=
  if s.reHStress ≤ p.stress || decide (s.reHStrain + (s.seq.method.plateauLimit : Int) < p.strain) then
    let s1 := finishPlateau p.strain s
    raise 0x0722 s1.reL (tellExit giveFirings .yieldDecided s1)
  else enterMinima p s

/-- The yield detector's part of a point (09 R174, R175). -/
def yieldStep (p : CurvePoint) (s : State) : State :=
  let m := trackMax s.result.smax p
  let s1 := { s with result := { s.result with smax := some m } }
  match s.result.yield with
  | .searching =>
    if (s.seq.method.fitUpper : Int) < m.stress then
      if 1000 * p.stress < (1000 - (s.seq.method.yieldDrop : Int)) * m.stress then yieldPoint m p s1
      else if (s.seq.method.yieldLimit : Int) < p.strain then
        raise 0x0721 m.stress (tellExit giveFirings .yieldDecided { s1 with result := { s1.result with yield := .none } })
      else s1
    else s1
  | .plateau => plateauStep p s1
  | .decided => s1
  | .none => s1

/-! ## Rm (09 R177) -/

/-- Rm in the record, as step 6 of the previous point formed it. -/
def State.rmFormed (s : State) : Int :=
  match s.result.record with
  | some r => r.rm
  | none => 0

/-- The Rm decision on a point, where the yield detector was decided before it (09 R177). -/
def rmStep (decidedBefore : Bool) (p : CurvePoint) (s : State) : State :=
  if !s.result.rmDecided && decidedBefore &&
      decide (1000 * p.force ≤ (1000 - (s.seq.method.fmaxPass : Int)) * s.force.fmax) then
    raise 0x0740 s.rmFormed (tellExit giveFirings .fmaxPassed { s with result := { s.result with rmDecided := true } })
  else s

/-! ## The point (09 R168) -/

/-- The force-drop test (09 R178). -/
def State.forceDrop (s : State) (p : CurvePoint) (sat : Bool) : Bool :=
  s.result.fracArmed && !sat && decide (0 < s.force.fmax) && decide ((s.seq.method.minFracture : Int) ≤ s.force.fmax) &&
    decide (1000 * p.force < (s.seq.method.fracture : Int) * s.force.fmax)

/-- A fracture is taken (09 R180). -/
def takeFracture (s : State) : State :=
  let s1 := takeBreak s
  reportFracture s1.breakForce s1

/-- A step of a point is made only while the test that the point belongs to goes on from the same zero: a decision
handed on may end the test or take the strain zero (Log 6). -/
def whileSame (start : State) (f : State → State) (s : State) : State :=
  if s.inTest && !(start.seq.method.strainZero && start.seq.phase == 0 && s.seq.phase != 0) then f s else s

/-- The Result Engine takes a curve point (09 R168). -/
def takePoint (p : CurvePoint) (sat : Bool) (s : State) : State :=
  if s.forceDrop p sat then takeFracture s
  else
    let before := s.result.yield.isDecided
    let s1 := fitStep p s
    let s2 := whileSame s (proofStep p) s1
    let s3 := whileSame s (yieldStep p) s2
    let s4 := whileSame s (rmStep before p) s3
    whileSame s (fun t => { t with result := { t.result with prev := some p } }) (formResults s4)

end Sys2Proof.Machine
end

