-- ==== Sys2Proof/Machine/ForceOps.lean ====
section
/-! DEFINITION. A load reading (01 R11 to R20): force, tare, load flags, and what is handed on from it: stress and
strain (02), monitors, overload (06), the curve point (09). -/

namespace Sys2Proof.Machine

/-! ## Force (01) -/

/-- The untared force of a reading in a range (01 R11). -/
def untared (c : RangeCal) (raw : Int) : Int := sat32 (roundDiv ((raw - c.zero) * c.gain) 1048576)

/-- A tare in flight ends as a failure (01 R19). -/
def failTare (cause : Int) (s : State) : State :=
  if s.force.tareOp.isSome then raise 0x0205 cause { s with force := { s.force with tareOp := none } } else s

/-- A converted frame: F under the tare in force; a tare in flight takes U, and the sixteenth frame forms F again with
the new tare (01 R11, R18). -/
def convertLoad (u : Int) (s : State) : State :=
  let s1 := { s with force := { s.force with f := sat32 (u - s.force.tare) } }
  match s.force.tareOp with
  | none => s1
  | some op =>
    if op.count + 1 < 16 then
      { s1 with force := { s1.force with tareOp := some { count := op.count + 1, sum := op.sum + u } } }
    else
      let t := sat32 (roundDiv (op.sum + u) 16)
      let s2 := raise 0x0204 t { s1 with force := { s1.force with tare := t, f := sat32 (u - t) } }
      { s2 with force := { s2.force with tareOp := none } }

/-- The overrange flags on an overrange frame (01 R12). -/
def flagOverrange (raw : Int) (s : State) : State :=
  if s.force.liveOver then s
  else raise 0x0201 raw { s with force := { s.force with liveOver := true, latchOver := true } }

/-- The uncalibrated-range report on a held frame (01 R13). -/
def reportUncal (r : Nat) (s : State) : State :=
  if s.force.uncal == some r then s else raise 0x0140 r { s with force := { s.force with uncal := some r } }

/-- The near-capacity flags on the force to be published (01 R15). -/
def flagNear (s : State) : State :=
  let now := nearCapacity s.force.liveNear s.force.f s.store.cal.fcap
  if now == s.force.liveNear then s
  else if now then
    raise 0x0202 s.force.f { s with force := { s.force with liveNear := true, latchNear := true } }
  else raise 0x0203 s.force.f { s with force := { s.force with liveNear := false } }

/-- Steps 1 to 3 of a load reading (01 R14): F formed or held, a tare in flight, the flags. -/
def formForce (r : Nat) (flag : Bool) (raw : Int) (s : State) : State :=
  let c := s.store.cal.range r
  if overrangeReading flag raw then flagNear (flagOverrange raw (failTare 2 s))
  else if c.gain = 0 then
    let s1 := failTare 3 s
    flagNear (reportUncal r { s1 with force := { s1.force with liveOver := false } })
  else
    let s1 := convertLoad (untared c raw) s
    flagNear { s1 with force := { s1.force with liveOver := false, uncal := none } }

/-! ## What is handed on (01 R14 step 4) -/

/-- Stress before saturation (02 R24); 0 with A = 0 (02 R23). -/
def State.stressQuotient (s : State) : Int :=
  if s.strain.specimen.area = 0 then 0 else roundDiv (s.force.f * 100000) (s.strain.specimen.area : Int)

/-- The stress of the force just published, with its saturation mark (02 R24). -/
def formStress (s : State) : State :=
  let q := s.stressQuotient
  { s with strain := { s.strain with stress := sat32 q, stressSat := q != sat32 q } }

/-- The peak tracker takes the force and active strain of a curve point (01 R20). -/
def trackPeak (s : State) : State :=
  if !s.force.hasPoint || decide (s.force.fmax < s.force.f) then
    { s with force := { s.force with fmax := s.force.f, strainAtFmax := s.strain.active, hasPoint := true } }
  else s

/-- The monitors of the published force, of the stress, and of the force against its peak (08 R153). -/
def monitorForce (s : State) : State :=
  let s1 := evalMonitors .stress s.strain.stress (evalMonitors .force s.force.f s)
  if 0 < s1.force.fmax then
    evalMonitors .forcePerMilleOfPeak (sat32 (roundDiv (s1.force.f * 1000) s1.force.fmax)) s1
  else s1

/-- The overload test on the published force (06 R110, R111). -/
def testOverload (s : State) : State :=
  let now := overloadAfter s.prot.overload s.force.f s.store.cal.flim
  let s1 := { s with prot := { s.prot with overload := now } }
  if now && !s.prot.overload then
    let s2 := { s1 with prot := { s1.prot with latched := { s1.prot.latched with overload := true } } }
    raise 0x0501 s2.force.f (abortCause .overload (stoppedFault s2))
  else s1

/-- The curve point of a load frame as it is handed on (02 R30), with the source kept with the set (09 R168). -/
def State.curvePoint (s : State) : CurvePoint :=
  { force := s.force.f, stress := s.strain.stress, strain := s.strain.active, source := s.strain.setSource }

/-- The curve point reaches the Result Engine while the test is RUNNING or HELD (09 R168). -/
def curveStep (s : State) : State := if s.inTest then takePoint s.curvePoint s.strain.stressSat s else s

/-- The set of a load frame is handed on: the source in force at that moment is kept with it (02 R30, 09 R168). -/
def noteSet (s : State) : State := { s with strain := { s.strain with setSource := s.strain.source } }

/-- What one published force hands on, block by block (01 R14; Log 9): stress and crosshead strain, the active strain
where the crosshead is the source, the peak, the monitors, the overload test, the set's source, the curve point. 08 R153
gives the quantities of one frame no order; yet the order in which the firings of different quantities are given on decides
which of them meets an exit and in what order FIRED is raised. That they are given on in the order CROSSHEAD_STRAIN, STRAIN,
FORCE, STRESS, FORCE_PER_MILLE_OF_PEAK, after the last of these evaluations, is the model's choice (Log 5). -/
def handOn (s : State) : State :=
  let s1 := formCrosshead (formStress s)
  let s2 := if s1.strain.source == .crosshead then formActive s1.strain.epsC s1 else s1
  let s3 := if s2.inTest then trackPeak s2 else s2
  curveStep (noteSet (testOverload (giveFirings false (monitorForce s3))))

/-- A load reading delivered by SLR0 (01 R14). -/
def loadReading (r : Nat) (flag : Bool) (raw : Int) (s : State) : State := handOn (formForce r flag raw s)

/-- A reading delivered by SLR1 or SLR2 (03 R39): overrange or conversion, zeroing and guard, passing on, slip. Of the two
quantities that step 4 hands on, firings of STRAIN are given on before those of PRIMARY_STRAIN or SECONDARY_STRAIN: the
model's choice (Log 5). -/
def extReading (x : ExtNo) (flag : Bool) (raw : Int) (s : State) : State :=
  if flag then testGuard x true raw (failZero x 2 s)
  else
    let s1 := testGuard x false raw (applyZeroing x raw (takeRaw x raw s))
    let s2 := giveFirings false (passOn x s1)
    match x with
    | .primary => testSlip s2
    | .secondary => s2

end Sys2Proof.Machine
end

