-- ==== Sys2Proof/Machine/SensorLinks.lean ====
section
/-! DEFINITION. The Sensor Link Receivers (01 R2 to R10): assembly, classification, counts, lock, silence, delivery,
and the commands SENSOR_FRAME, SENSOR_CHAR_GAP_TIMEOUT and SILENCE_TIMER_EXPIRY. -/

namespace Sys2Proof.Machine

/-- One receiver is changed. -/
def updLink (n : Link) (g : Receiver → Receiver) (s : State) : State :=
  { s with links := s.links.set n (g (s.links.get n)) }

/-! ## Lock changes (01 R7) -/

/-- The blind-speed condition is formed again, and the ceiling with it at once (04 R71). -/
def markBlind (s : State) : State := reformCeiling { s with motion := { s.motion with blind := s.blindNow } }

/-- The beginning or the end of the blind-speed condition is reported, with the ceiling formed at it (04 R71, 06 R123).
`before` is the condition before the change. -/
def reportBlind (before : Bool) (ceiling : Nat) (s : State) : State :=
  if s.motion.blind == before then s else raise (if s.motion.blind then 0x0508 else 0x0509) ceiling s

/-- The blind-speed condition is formed again and its change reported, where no other block acts on it (04 R71). -/
def updateBlind (s : State) : State :=
  let s1 := markBlind s
  reportBlind s.motion.blind s1.motion.ceiling s1

/-- The lock-loss policy of the method (07 R140). -/
def lockLoss (s : State) : State :=
  if s.inTest then
    if s.seq.method.lockAbort then abortCause .loadLink s else joinHeld .lockLoss s
  else s

/-- A receiver has entered or left LOCKED: the event (01 R5, R6), then the blocks that depend on it (01 R7). At a loss of
SLR0's lock they act in the order in which R7 lists them: the Force Channel, the ceiling, the Sequencer; and
BLIND_SPEED_ON, with the ceiling as first formed, is raised after the Sequencer has been acted on (06 R123; Log 56). -/
def lockChanged (n : Link) (locked : Bool) (s : State) : State :=
  let s1 := raise ((if locked then 0x0110 else 0x0120) + linkNo n) (linkNo n) s
  match n with
  | .slr0 =>
    if locked then updateBlind s1
    else
      let s2 := markBlind (failTare 1 s1)
      reportBlind s.motion.blind s2.motion.ceiling (lockLoss s2)
  | .slr1 => extLinkChange .primary locked s1
  | .slr2 => extLinkChange .secondary locked s1

/-! ## Counts (01 R4, R8, R9) -/

/-- The error count rises by `k`; at or above the threshold with the mark clear, ERROR_THRESHOLD is raised (01 R8). Where the count
is saturated and a new threshold has cleared the mark, an error raises none, since the count rises no more: the model's
choice (Log 50). -/
def addErrors (n : Link) (k : Nat) (s : State) : State :=
  let r := s.links.get n
  let c := satU16 (r.errCount + k)
  if r.errCount < c && r.errThreshold ≤ c && !r.reported then
    raise (0x0130 + linkNo n) c (updLink n (fun q => { q with errCount := c, reported := true }) s)
  else updLink n (fun q => { q with errCount := c }) s

/-- The number of frames missed before a good frame with sequence number `sq` (01 R4). -/
def Receiver.missed (r : Receiver) (sq : Byte) : Nat :=
  match r.lock, r.lastSeq with
  | .unlocked, _ => 0
  | _, some l => (sq - l - 1).toNat - r.badSince
  | _, none => 0

/-! ## Good and bad frames (01 R3 to R6) -/

/-- The silence time of a link in crystal microseconds (01 R6). -/
def silenceUs : Link → Nat
  | .slr0 => 2000
  | .slr1 => 4000
  | .slr2 => 4000

/-- The lock state after a good frame (01 R5). -/
def Receiver.applyGood (r : Receiver) : Receiver :=
  match r.lock with
  | .unlocked => { r with cg := 1, lock := .acquiring }
  | .acquiring =>
    if 8 ≤ r.cg + 1 then { r with cg := r.cg + 1, lock := .locked, cb := 0 } else { r with cg := r.cg + 1 }
  | .locked => { r with cb := 0 }

/-- The lock state after a bad frame (01 R5); the silence timer stops in UNLOCKED (R6). -/
def Receiver.applyBad (r : Receiver) : Receiver :=
  match r.lock with
  | .unlocked => { r with cg := 0 }
  | .acquiring => { r with cg := 0, lock := .unlocked, silence := none }
  | .locked =>
    if 4 ≤ r.cb + 1 then { r with cg := 0, cb := 0, lock := .unlocked, silence := none } else { r with cb := r.cb + 1 }

/-- The lock change, if any, from one receiver state to another, is reported and handed on. -/
def reportLock (n : Link) (before : Receiver) (s : State) : State :=
  let now := (s.links.get n).lock == .locked
  if now == (before.lock == .locked) then s else lockChanged n now s

/-- A bad frame (01 R3, R4, R5, R8): counted, then applied to the lock state. -/
def badFrame (n : Link) (s : State) : State :=
  let before := s.links.get n
  let s1 := addErrors n 1 (updLink n (fun r => { r with badFrames := satU32 (r.badFrames + 1),
                                                        badSince := r.badSince + 1 }) s)
  reportLock n before (updLink n Receiver.applyBad s1)

/-- A reading is delivered to its consumer (01 R7); in INIT the consumers hold their values and take none (Log 13). -/
def deliver (n : Link) (status : Byte) (raw : Int) (s : State) : State :=
  if s.store.ready then
    match n with
    | .slr0 => loadReading (status.toNat % 4) (status.getLsbD 2) raw s
    | .slr1 => extReading .primary (status.getLsbD 2) raw s
    | .slr2 => extReading .secondary (status.getLsbD 2) raw s
  else s

/-- A good frame (01 R3 to R7): counted, applied to the lock state, delivered (Log 12). -/
def goodFrame (n : Link) (status sq : Byte) (raw : Int) (s : State) : State :=
  let before := s.links.get n
  let k := before.missed sq
  let s1 := addErrors n k (updLink n (fun r => { r with goodFrames := satU32 (r.goodFrames + 1),
                                                        missedFrames := satU32 (r.missedFrames + k) }) s)
  let s2 := updLink n (fun r => { r.applyGood with badSince := 0, lastSeq := some sq,
                                                   silence := s1.after (silenceUs n) }) s1
  deliver n status raw (reportLock n before s2)

/-- A completed frame is classified (01 R3) and taken. -/
def takeFrame (n : Link) (bytes : List Byte) (s : State) : State :=
  match bytes with
  | [_, st, d2, d1, d0, sq, ck] =>
    let r := s.links.get n
    if ck == st ^^^ d2 ^^^ d1 ^^^ d0 ^^^ sq && !st.getLsbD 3 && (r.lock == .unlocked || r.lastSeq != some sq) then
      goodFrame n st sq (signedOf 24 (natOf [d2, d1, d0])) s
    else badFrame n s
  | _ => badFrame n s

/-- One character is taken by a receiver's assembly (01 R2); a frame completed or abandoned is taken whole. -/
def sensorChar (n : Link) (s : State) (c : SerialChar) : State :=
  match (s.links.get n).asm with
  | .hunting =>
    if c.byte == 0xB4 && !c.stopErr then updLink n (fun r => { r with asm := .collecting [c.byte] }) s else s
  | .collecting bs =>
    if c.stopErr then settle (badFrame n (updLink n (fun r => { r with asm := .hunting }) s))
    else if bs.length < 6 then updLink n (fun r => { r with asm := .collecting (bs ++ [c.byte]) }) s
    else settle (takeFrame n (bs ++ [c.byte]) (updLink n (fun r => { r with asm := .hunting }) s))

/-- SENSOR_FRAME: characters arrive on a sensor link (01 R2, R3). -/
def doSensorFrame (n : Link) (chars : List SerialChar) (s : State) : State := chars.foldl (sensorChar n) s

/-- The command SENSOR_FRAME. -/
def execSensorFrame (n : Link) (chars : List SerialChar) (s : State) : Outcome := .next (doSensorFrame n chars s)

/-- SENSOR_CHAR_GAP_TIMEOUT: a partial frame is abandoned (01 R2). -/
def doSensorCharGapTimeout (n : Link) (s : State) : State :=
  match (s.links.get n).asm with
  | .hunting => s
  | .collecting _ => settle (badFrame n (updLink n (fun r => { r with asm := .hunting }) s))

/-- The command SENSOR_CHAR_GAP_TIMEOUT. -/
def execSensorCharGapTimeout (n : Link) (s : State) : Outcome := .next (doSensorCharGapTimeout n s)

/-- SILENCE_TIMER_EXPIRY (01 R6). A timer that does not run does not expire. -/
def doSilenceTimerExpiry (n : Link) (s : State) : State :=
  let before := s.links.get n
  if before.silence.isSome then
    settle (reportLock n before (updLink n (fun r =>
      { r with lock := .unlocked, cg := 0, cb := if r.lock == .locked then 0 else r.cb, silence := none }) s))
  else s

/-- The command SILENCE_TIMER_EXPIRY. -/
def execSilenceTimerExpiry (n : Link) (s : State) : Outcome := .next (doSilenceTimerExpiry n s)

end Sys2Proof.Machine
end

