-- ==== Sys2Proof/Machine/Protect.lean ====
section
/-! DEFINITION. The Protection Unit's detections (06) and the commands of its timers and requests. The overload test
stands with the load reading in ForceOps.lean. -/

namespace Sys2Proof.Machine

/-! ## Latching (06 R108) -/

/-- A member joins the latched fault set, an immediate-fault order is given, and the cause is handed to the Sequencer
(06 R108 steps 1 to 3). -/
def latchImmediate (g : FaultSet → FaultSet) (c : AbortCause) (s : State) : State :=
  abortCause c (immediateFault { s with prot := { s.prot with latched := g s.prot.latched } })

/-- The overtravel test against the demand last sent (06 R117). -/
def testOvertravel (s : State) : State :=
  if s.limitPos && decide (0 < s.motion.lastDemand) then
    let s1 := latchImmediate (fun f => { f with overPos := true }) .overtravel s
    raise 0x0505 s1.position s1
  else if s.limitNeg && decide (s.motion.lastDemand < 0) then
    let s1 := latchImmediate (fun f => { f with overNeg := true }) .overtravel s
    raise 0x0506 s1.position s1
  else s

/-- ESTOP passes from closed to open (06 R116). -/
def estopOpened (s : State) : State :=
  raise 0x0504 s.motion.lastDemand (latchImmediate (fun f => { f with estop := true }) .estop s)

/-- GRIPS_CLOSED deasserts (06 R119, R120). -/
def gripsOpened (s : State) : State :=
  let s1 := { s with prot := { s.prot with gripCount := 0 } }
  if s.inTest then raise 0x0507 s.prot.gripCount (joinHeld .grip s1) else s1

/-! ## Drive fault (06 R112 to R115) -/

/-- The retry count of the episode, 0 if none. -/
def State.retryCount (s : State) : Nat :=
  match s.prot.episode with
  | some n => n
  | none => 0

/-- A confirmed drive fault is latched (06 R113). -/
def latchDriveFault (s : State) : State :=
  raise 0x0503 s.retryCount (latchImmediate (fun f => { f with driveFault := true }) .driveFault s)

/-- A confirmed drive fault is retried (06 R114): the count rises, DRIVE_EN goes low with the motion kept suspended,
the off-time timer starts. -/
def retryDrive (s : State) : State :=
  let n := s.retryCount + 1
  let s1 := enterMotion .retryWait { s with prot := { s.prot with episode := some n } }
  raise 0x0502 n { s1 with prot := { s1.prot with offTime := s1.after (s1.store.cal.offTimeMs * 1000) } }

/-- A drive fault is confirmed (06 R113). -/
def confirmDriveFault (s : State) : State :=
  if (s.motion.state == .move || s.motion.state == .jog) && s.store.cal.retryEnable &&
      decide (s.retryCount < s.store.cal.retryLimit) then retryDrive s
  else latchDriveFault s

/-- BLANKING_TIMER_EXPIRY (06 R112, R113). A timer that does not run does not expire. -/
def doBlankingTimerExpiry (s : State) : State :=
  if s.prot.blanking.isSome then
    settle (confirmDriveFault { s with prot := { s.prot with blanking := none } })
  else s

/-- The command BLANKING_TIMER_EXPIRY. -/
def execBlankingTimerExpiry (s : State) : Outcome := .next (doBlankingTimerExpiry s)

/-- The suspended motion resumes at the end of the off-time (04 R86). -/
def resumeDrive (s : State) : State :=
  if s.motion.startedHead.isSome then
    enterMotion .move { s with motion := { s.motion with refX := 2000 * s.position } }
  else if s.motion.jog.isSome then enterMotion .jog s
  else enterMotion .standby s

/-- OFF_TIME_EXPIRY (06 R114, 04 R86). -/
def doOffTimeExpiry (s : State) : State :=
  if s.prot.offTime.isSome then
    let s1 := { s with prot := { s.prot with offTime := none } }
    settle (if s1.motion.state == .retryWait then resumeDrive s1 else s1)
  else s

/-- The command OFF_TIME_EXPIRY. -/
def execOffTimeExpiry (s : State) : Outcome := .next (doOffTimeExpiry s)

/-! ## Grips (06 R119) -/

/-- GRIP_SETTLE_TICK: a millisecond passes with GRIPS_CLOSED asserted (06 R119). -/
def doGripSettleTick (s : State) : State :=
  if s.gripsClosed then { s with prot := { s.prot with gripCount := satU16 (s.prot.gripCount + 1) } } else s

/-- The command GRIP_SETTLE_TICK. -/
def execGripSettleTick (s : State) : Outcome := .next (doGripSettleTick s)

/-! ## CLEAR_FAULT (06 R109) -/

/-- The request CLEAR_FAULT (06 R109); the acceptance reports the members removed. That the acceptance with the set empty
carries the empty set too, one byte 0, is the model's choice (Log 19). -/
def reqClearFault (s : State) : Answer :=
  if s.prot.latched.any then
    checked
      [(s.estopClosed, .estopOpen),
       (s.motion.state == .fault || s.motion.state == .off, .wrongState),
       (!(s.prot.latched.overload && s.prot.overload), .wrongState)] s
      (let s1 := { s with prot := { s.prot with latched := FaultSet.empty } }
       accept (if s1.motion.state == .fault then enterMotion .off s1 else s1) (bSet s.prot.latched.members))
  else accept s (bSet s.prot.latched.members)

end Sys2Proof.Machine
end

