-- ==== Sys2Proof/Machine/MotionCmds.lean ====
section
/-! DEFINITION. The Motion Controller's commands (04): the control period, the encoder, the jog keepalive, and the
requests that move, stop, enable and bound the crosshead. -/

namespace Sys2Proof.Machine

/-! ## The control period (04 R69) -/

/-- A soft limit is met: SOFT_LIMIT, a controlled stop, and in a test the cause TRAVEL_LIMIT (04 R83). -/
def meetSoftLimit (code : Nat) (s : State) : State :=
  let s1 := raise code s.position s
  if s.motion.state == .test then abortCause .travelLimit (enterStop .standby s1) else enterStop .standby s1

/-- Step 1: the soft-limit test in MOVE, JOG and TEST (04 R69, R83). -/
def softLimitStep (s : State) : State :=
  if s.motion.state == .move || s.motion.state == .jog || s.motion.state == .test then
    if s.upperMet then meetSoftLimit 0x0403 s
    else if s.lowerMet then meetSoftLimit 0x0404 s
    else s
  else s

/-- The remaining distance of a segment in 1/2,000 nm (04 R75 step 1). -/
def State.remaining (s : State) (seg : Segment) : Int := 2000 * seg.target - s.motion.refX

/-- The wanted speed of a move (04 R75 steps 2 and 3). -/
def State.moveWanted (s : State) (seg : Segment) : Int :=
  let r := s.remaining seg
  let v : Int := min s.motion.ceiling (brakingSpeed s.store.cal.amax r)
  if 0 < r then v else if r < 0 then -v else 0

/-- The wanted speed of a jog (04 R77). -/
def State.jogWanted (s : State) (j : Jog) : Int :=
  let v : Int := min s.motion.ceiling j.speed
  if j.positive then v else -v

/-- Step 2: the candidate of the present state (04 R69); in TEST the Rate Loop has run its steps. -/
def State.candidate (s : State) : Int :=
  let a := periodStep s.store.cal.amax
  match s.motion.state with
  | .off => 0
  | .standby => 0
  | .retryWait => 0
  | .fault => 0
  | .move =>
    match s.motion.startedHead with
    | some seg => moveToward s.motion.lastDemand (s.moveWanted seg) a
    | none => 0
  | .jog =>
    match s.motion.jog with
    | some j => moveToward s.motion.lastDemand (s.jogWanted j) a
    | none => 0
  | .stopping => moveToward s.motion.lastDemand 0 (periodStep s.store.cal.stopDecel)
  | .test => s.loopCandidate

/-- The Rate Loop's steps at an expiry in TEST (05 R89). -/
def runLoop (s : State) : State :=
  if s.motion.state == .test then
    match s.loop.mode with
    | some m => loopStep m s
    | none => s
  else s

/-- The dwell withholds a candidate: not 0, against the sign of the last non-zero demand, with too short a zero run
(04 R72). -/
def State.withholds (s : State) (c : Int) : Bool :=
  c != 0 && (match s.motion.sign with | some pos => pos != decide (0 < c) | none => false) &&
    decide (s.motion.zeroRun < 2 * s.store.cal.dwellMs)

/-- The four characters of a demand word: the header, then bits 23 to 0 of the demand's two's complement (04 R68). R68 has
every demand fit 24 bits; one that does not, under a machine vmax above 8,388,607 in a stored record that the load takes as
it stands (11 R207), keeps its bits 23 to 0: the model's choice (Log 64). -/
def demandWord (v : Int) : List Byte := 0x5A :: bytesOf 3 (v % 16777216).toNat

/-- Step 5: the word is sent, and the bookkeeping of the dwell is updated (04 R69, R72). `c` is the clamped candidate
that `withheld` tells of; `v` is what is sent. -/
def sendWord (c : Int) (withheld : Bool) (v : Int) (s : State) : State :=
  let m := s.motion
  let s1 := { s with motion := { m with
    lastDemand := v
    lastWord := demandWord v
    sign := if v = 0 then m.sign else some (decide (0 < v))
    zeroRun := if v = 0 then satU16 (m.zeroRun + 1) else 0
    dwell := withheld
    periodDue := m.periodDue + Config.controlPeriodUs } }
  if withheld && !m.dwell then raise 0x0406 c s1 else s1

/-- Steps 3 to 5 (04 R69): ceiling clamp, reversal dwell, send. -/
def sendDemand (s : State) : State :=
  let c := clampMag s.motion.ceiling s.candidate
  let w := s.withholds c
  sendWord c w (if w || !s.motion.driveEn then 0 else c) s

/-- After a word in TEST, the Rate Loop's previous demand is the demand last sent (05 R99). -/
def notePrevious (s : State) : State :=
  if s.motion.state == .test then { s with loop := { s.loop with prev := s.motion.lastDemand } } else s

/-- The head segment completes (04 R76; 06 R115). -/
def completeHead (seg : Segment) (s : State) : State :=
  let s1 := raise 0x0401 (seg.target - s.position) { s with motion := { s.motion with refX := 2000 * seg.target } }
  let s2 := endEpisode { s1 with motion := { s1.motion with queue := s1.motion.queue.tail } }
  match s2.motion.queue with
  | [] => enterMotion .standby s2
  | nxt :: _ => if nxt.trigger = 0 then beginHead s2 else enterMotion .standby s2

/-- The reference advances by the demand sent, and the segment completes when its motion has ended (04 R75 steps 5 and
6). `r` is the remaining distance of step 1. With `r` 0 it has no direction: a head chained at its own target, taken up
while the demand last sent is large, then goes on unless |T - X| < 2,000, which is the model's choice (Log 55). -/
def advanceMove (seg : Segment) (r : Int) (s : State) : State :=
  let x := s.motion.refX + s.motion.lastDemand
  let s1 := { s with motion := { s.motion with refX := x } }
  let t := 2000 * seg.target
  if decide ((t - x).natAbs < 2000) || (decide (0 < r) && decide (t ≤ x)) || (decide (r < 0) && decide (x ≤ t)) then
    completeHead seg s1
  else s1

/-- What follows the word in MOVE and in STOPPING (04 R75, R80). `before` is the state as step 2 found it. -/
def afterWord (before s : State) : State :=
  match s.motion.state with
  | .move =>
    match s.motion.startedHead with
    | some seg => advanceMove seg (before.remaining seg) s
    | none => s
  | .stopping =>
    if s.motion.lastDemand = 0 then
      stopEnded (enterMotion (match s.motion.dest with | some d => d.toMotion | none => .standby) s)
    else s
  | .off => s
  | .standby => s
  | .jog => s
  | .test => s
  | .retryWait => s
  | .fault => s

/-- The control period expires (04 R69): the five steps, the overtravel test after the word (06 R117; Log 11), what
follows the word, and the POSITION monitors (Log 10). -/
def controlPeriod (s : State) : State :=
  let s1 := runLoop (softLimitStep s)
  let s2 := notePrevious (sendDemand s1)
  let s3 := afterWord s1 (testOvertravel s2)
  giveFirings false (evalMonitors .position s3.position s3)

/-- CONTROL_PERIOD (04 R68, R69). -/
def doControlPeriod (s : State) : State := settle (controlPeriod s)

/-- The command CONTROL_PERIOD. -/
def execControlPeriod (s : State) : Outcome := .next (doControlPeriod s)

/-! ## Encoder (02 R25) -/

/-- The place of a pair of levels in the cycle 00, 10, 11, 01 (02 R25). -/
def quadrature (a b : Bool) : Nat :=
  match a, b with
  | false, false => 0
  | true, false => 1
  | true, true => 2
  | false, true => 3

/-- ENCODER_TRANSITION: the pair takes new levels (02 R25). -/
def doEncoderTransition (a b : Bool) (s : State) : State :=
  let d := (quadrature a b + 4 - quadrature s.motion.encA s.motion.encB) % 4
  let m := { s.motion with encA := a, encB := b }
  { s with motion :=
      if d = 1 then { m with encCount := sat32 (m.encCount + 1) }
      else if d = 3 then { m with encCount := sat32 (m.encCount - 1) }
      else if d = 2 then { m with encErrors := satU32 (m.encErrors + 1) }
      else m }

/-- The command ENCODER_TRANSITION. -/
def execEncoderTransition (a b : Bool) (s : State) : Outcome := .next (doEncoderTransition a b s)

/-! ## Jog keepalive (04 R78) -/

/-- The keepalive expires: the jog record is cleared, JOG_EXPIRED, and in JOG a controlled stop. -/
def expireJog (s : State) : State :=
  let s1 := raise 0x0402 s.position { s with motion := { s.motion with jog := none, keepalive := none } }
  if s.motion.state == .jog then enterStop .standby (endEpisode s1) else reformCeiling s1

/-- JOG_KEEPALIVE_EXPIRY (04 R78). A timer that does not run does not expire. -/
def doJogKeepaliveExpiry (s : State) : State :=
  if s.motion.keepalive.isSome then settle (expireJog s) else s

/-- The command JOG_KEEPALIVE_EXPIRY. -/
def execJogKeepaliveExpiry (s : State) : Outcome := .next (doJogKeepaliveExpiry s)

/-! ## ENABLE, DISABLE, STOP (04 R66, R67, R79) -/

/-- The request ENABLE (04 R66). -/
def reqEnable (s : State) : Answer :=
  checked
    [(s.estopClosed, .estopOpen), (!s.prot.latched.any, .faultLatched),
     (s.motion.state == .off || s.motion.state == .standby, .wrongState)] s
    (accept (if s.motion.state == .off then enterMotion .standby s else s) [])

/-- The request DISABLE (04 R67). -/
def reqDisable (s : State) : Answer :=
  match s.motion.state with
  | .off => accept s []
  | .fault => accept s []
  | .standby => accept (enterMotion .off (clearSetup s)) []
  | .move => accept (enterStop .off s) []
  | .jog => accept (enterStop .off s) []
  | .stopping =>
    accept { s with motion := { s.motion with
      dest := if s.motion.dest == some .fault then s.motion.dest else some .off } } []
  | .retryWait => accept (enterMotion .off (clearSetup s)) []
  | .test => refuse .wrongState s

/-- The request STOP (04 R79). -/
def reqStop (s : State) : Answer :=
  match s.motion.state with
  | .off => accept s []
  | .fault => accept s []
  | .standby => accept (clearSetup s) []
  | .move => accept (enterStop .standby s) []
  | .jog => accept (enterStop .standby (endEpisode s)) []
  | .stopping => accept s []
  | .retryWait => accept (enterMotion .off (clearSetup s)) []
  | .test => refuse .wrongState s

/-! ## MOVE (04 R73, R74) -/

/-- A trigger is given to the head segment (04 R73). -/
def triggerHead (n : Nat) (s : State) : State :=
  match s.motion.waitingHead with
  | some seg => if s.motion.state == .standby && (n == 0 || n == seg.trigger) then beginHead s else s
  | none => s

/-- The bytes of a segment: target, speed, trigger, started mark (Log 44). -/
def segmentBytes (g : Segment) : List Byte := i4 g.target ++ u4 g.speed ++ b1 g.trigger ++ bFlag g.started

/-- A move's or a jog's direction is toward an asserted switch (06 R118). -/
def State.towardSwitch (s : State) (positive negative : Bool) : Bool :=
  (s.limitPos && positive) || (s.limitNeg && negative)

/-- The last segment of the queue, as it stands. -/
def Motion.lastSegment (m : Motion) (g : Segment) : Segment :=
  match m.queue.getLast? with
  | some q => q
  | none => g

/-- A segment joins the tail, and begins at once where it is an IMMEDIATE head in STANDBY (04 R73, R74). -/
def appendSegment (g : Segment) (s : State) : State :=
  let s1 := { s with motion := { s.motion with queue := s.motion.queue ++ [g] } }
  if s.motion.state == .standby && s.motion.queue.isEmpty && g.trigger == 0 then beginHead s1 else s1

/-- The request MOVE: target, speed, trigger (04 R74; 06 R118). -/
def reqMove (p : List Byte) (s : State) : Answer :=
  let target := fieldS p 0 4
  let speed := fieldU p 4 4
  let trigger := fieldU p 8 1
  checked
    [(speed != 0 && decide (trigger ≤ 15), .badValue),
     (s.betweenTests, .wrongState),
     (!s.prot.latched.any, .faultLatched),
     (s.motion.state == .standby || s.motion.state == .move || s.motion.suspendsMove, .wrongState),
     (s.withinTravel target, .outsideTravel),
     (!s.towardSwitch (decide (s.position < target)) (decide (target < s.position)), .outsideTravel),
     (decide (s.motion.queue.length < Config.segmentCapacity), .queueFull)] s
    (let g : Segment := { target := target, speed := min speed s.store.cal.vmax, trigger := trigger, started := false }
     let s1 := appendSegment g s
     accept s1 (segmentBytes (s1.motion.lastSegment g) ++ b4 s1.motion.queue.length))

/-! ## JOG (04 R77) -/

/-- The bytes of a jog record: direction (0 positive, 1 negative), speed. -/
def jogBytes (j : Jog) : List Byte := [if j.positive then 0 else 1] ++ u4 j.speed

/-- A jog's direction is open under the soft limits (04 R77). -/
def State.jogWithin (s : State) (positive : Bool) : Bool :=
  if positive then (match s.motion.softUpper with | some u => decide (s.position < u) | none => true)
  else (match s.motion.softLower with | some l => decide (l < s.position) | none => true)

/-- An accepted jog is taken: begun in STANDBY, refreshed, or replaced (04 R77). -/
def takeJog (j : Jog) (s : State) : State :=
  let s1 := { s with motion := { s.motion with jog := some j, keepalive := s.after (s.store.cal.keepaliveMs * 1000) } }
  if s.motion.state == .standby then enterMotion .jog s1
  else if s.motion.jog == some j then s1
  else reformCeiling s1

/-- The request JOG: direction, speed (04 R77; 06 R118). A direction outside its list is BAD_VALUE (Log 23). -/
def reqJog (p : List Byte) (s : State) : Answer :=
  let dir := fieldU p 0 1
  let pos := dir == 0
  let speed := fieldU p 1 4
  checked
    [(speed != 0 && decide (dir ≤ 1), .badValue),
     (s.betweenTests, .wrongState),
     (!s.prot.latched.any, .faultLatched),
     (s.motion.state == .standby || s.motion.state == .jog || s.motion.suspendsJog, .wrongState),
     (s.motion.state != .standby || s.motion.queue.isEmpty, .queueNotEmpty),
     (s.jogWithin pos, .outsideTravel),
     (!s.towardSwitch pos (!pos), .outsideTravel)] s
    (let j : Jog := { positive := pos, speed := min speed s.store.cal.vmax }
     accept (takeJog j s) (jogBytes j))

/-! ## SET_TRAVEL and ZERO_POS (04 R82, 02 R27) -/

/-- The bytes of the soft travel limits: lower, upper, each with its present mark (04 R82). -/
def travelBytes (m : Motion) : List Byte := bOption 4 i4 m.softLower ++ bOption 4 i4 m.softUpper

/-- A present mark followed by a signed item of 4 bytes. -/
def optionalS4 (p : List Byte) (off : Nat) : Option Int := if fieldU p off 1 = 0 then none else some (fieldS p (off + 1) 4)

/-- Motion is at rest without a drive demand: OFF, STANDBY or FAULT. -/
def State.atRest (s : State) : Bool :=
  s.motion.state == .off || s.motion.state == .standby || s.motion.state == .fault

/-- Where both limits are present, the lower lies below the upper (04 R82). -/
def travelOrdered : Option Int → Option Int → Bool
  | some l, some u => decide (l < u)
  | _, _ => true

/-- The request SET_TRAVEL (04 R82); no payload is a query. -/
def reqSetTravel (p : List Byte) (s : State) : Answer :=
  if p.isEmpty then accept s (travelBytes s.motion)
  else
    let lo := optionalS4 p 0
    let up := optionalS4 p 5
    checked
      [((flagOf (fieldU p 0 1)).isSome && (flagOf (fieldU p 5 1)).isSome && travelOrdered lo up, .badValue),
       (s.betweenTests, .wrongState), (s.atRest, .wrongState), (s.motion.queue.isEmpty, .queueNotEmpty)] s
      (let s1 := { s with motion := { s.motion with softLower := lo, softUpper := up } }
       accept s1 (travelBytes s1.motion))

/-- The request ZERO_POS (02 R27). -/
def reqZeroPos (s : State) : Answer :=
  checked
    [(s.betweenTests, .wrongState), (s.atRest, .wrongState), (s.motion.queue.isEmpty, .queueNotEmpty)] s
    (accept { s with motion := { s.motion with encCount := 0 } } [])

end Sys2Proof.Machine
end

