-- ==== Sys2Proof/Machine/Codes.lean ====
section
/-! DEFINITION. The bytes that stand for named values on the host link: each by its place in the owning rule's list,
counted from 0 (11, request catalogue). -/

namespace Sys2Proof.Machine

/-- Lock states (01 R5). -/
def lockCode : Lock → Byte
  | .unlocked => 0
  | .acquiring => 1
  | .locked => 2

/-- Extensometer states (03 R40). -/
def extStateCode : ExtState → Byte
  | .absent => 0
  | .unzeroed => 1
  | .ready => 2
  | .active => 3
  | .removing => 4
  | .removed => 5
  | .lost => 6

/-- Removal policies (03 R46). -/
def policyCode : Policy → Byte
  | .none => 0
  | .pause => 1
  | .fly => 2

/-- A removal policy from its byte. -/
def policyOf (n : Nat) : Option Policy :=
  if n = 0 then some .none else if n = 1 then some .pause else if n = 2 then some .fly else none

/-- The removal condition byte: m, 8 for AFTER_PROOF, 0xFF when absent (11 R203). -/
def condCode : Option RemovalCond → Byte
  | some (.monitor m) => BitVec.ofNat 8 m.val
  | some .afterProof => 8
  | none => 0xFF

/-- A removal condition from its byte (11 R203). -/
def condOf (n : Nat) : Option RemovalCond :=
  if h : n < 8 then some (.monitor ⟨n, h⟩) else if n = 8 then some .afterProof else none

/-- Modes a removal takes (03 R46). -/
def removalModeCode : RemovalMode → Byte
  | .pause => 0
  | .fly => 1

/-- Confirmation kinds (03 R46). -/
def kindCode : Confirmation → Byte
  | .armsInput => 0
  | .hostConfirm => 1
  | .none => 2
  | .timeout => 3

/-- Motion states (04 R64). -/
def motionCode : MotionState → Byte
  | .off => 0
  | .standby => 1
  | .move => 2
  | .jog => 3
  | .test => 4
  | .stopping => 5
  | .retryWait => 6
  | .fault => 7

/-- Destinations of a stop (04 R80). -/
def destCode : StopDest → Byte
  | .standby => 0
  | .off => 1
  | .fault => 2

/-- Control modes (07 R126). -/
def modeCode : Mode → Byte
  | .positionRate => 0
  | .stressRate => 1
  | .strainRate => 2
  | .holdPosition => 3

/-- A control mode from its byte. -/
def modeOf (n : Nat) : Option Mode :=
  if n = 0 then some .positionRate else if n = 1 then some .stressRate
  else if n = 2 then some .strainRate else if n = 3 then some .holdPosition else none

/-- Exit kinds (07 R126). -/
def exitCode : ExitKind → Byte
  | .monitor => 0
  | .yieldDecided => 1
  | .proofDecided => 2
  | .fmaxPassed => 3
  | .handoverDone => 4
  | .time => 5
  | .fractureOnly => 6

/-- An exit kind from its byte. -/
def exitOf (n : Nat) : Option ExitKind :=
  if n = 0 then some .monitor else if n = 1 then some .yieldDecided else if n = 2 then some .proofDecided
  else if n = 3 then some .fmaxPassed else if n = 4 then some .handoverDone else if n = 5 then some .time
  else if n = 6 then some .fractureOnly else none

/-- Sequencer states (07, "Sequencer states"). -/
def seqCode : SeqState → Byte
  | .idle => 0
  | .armed => 1
  | .running => 2
  | .held => 3
  | .finishing => 4
  | .complete => 5
  | .aborted => 6

/-- Monitored quantities (08 R151). -/
def quantityCode : Quantity → Byte
  | .force => 0
  | .stress => 1
  | .strain => 2
  | .primaryStrain => 3
  | .secondaryStrain => 4
  | .crossheadStrain => 5
  | .position => 6
  | .testTimeMs => 7
  | .forcePerMilleOfPeak => 8

/-- A monitored quantity from its byte. -/
def quantityOf (n : Nat) : Option Quantity :=
  [Quantity.force, .stress, .strain, .primaryStrain, .secondaryStrain, .crossheadStrain, .position, .testTimeMs,
   .forcePerMilleOfPeak][n]?

/-- Monitor states (08 R152). -/
def monitorStateCode : MonitorState → Byte
  | .disabled => 0
  | .armed => 1
  | .fired => 2

/-- Status signals and their monitor index (08 R165). -/
def signalCode : Signal → Byte × Byte
  | .testRunning => (0, 0)
  | .crossheadMoving => (1, 0)
  | .removeRequest => (2, 0)
  | .held => (3, 0)
  | .anyFault => (4, 0)
  | .fractured => (5, 0)
  | .loadLocked => (6, 0)
  | .monitorFired m => (7, BitVec.ofNat 8 m.val)

/-- A status signal from its byte and a monitor index. -/
def signalOf (n : Nat) (m : Fin 8) : Option Signal :=
  [Signal.testRunning, .crossheadMoving, .removeRequest, .held, .anyFault, .fractured, .loadLocked,
   .monitorFired m][n]?

/-- Sources of an output line, with the signal (08 R164). Where a source has no signal, or a signal no monitor, the byte is 0
whatever was sent: the model's choice (Log 19). -/
def outSourceBytes : OutSource → List Byte
  | .low => [0, 0, 0]
  | .high => [1, 0, 0]
  | .status sig => [2, (signalCode sig).1, (signalCode sig).2]
  | .pulse => [3, 0, 0]

/-- A source of an output line from its bytes (08 R164): source, signal, monitor index. -/
def outSourceOf (src sig m : Nat) : Option OutSource :=
  match signalOf sig (Fin.ofNat 8 m) with
  | none => none
  | some g => [OutSource.low, .high, .status g, .pulse][src]?

/-- Fit states (09 R185). -/
def fitCode : FitState → Byte
  | .isOpen => 0
  | .done => 1
  | .failed => 2

/-- Proof search states (09 R172). -/
def proofCode : ProofState → Byte
  | .waiting => 0
  | .isOpen => 1
  | .found => 2
  | .absent => 3

/-- Yield detector states (09 R174). No rule lists the four in one list: their order here is the model's choice (Log 19). -/
def yieldCode : YieldState → Byte
  | .searching => 0
  | .plateau => 1
  | .decided => 2
  | .none => 3

/-- Kinds of log record (11 R203). -/
def logKindCode : LogKind → Byte
  | .sample => 1
  | .gap => 2
  | .mark => 3

/-- Log states (10 R188). -/
def logStateCode : LogState → Byte
  | .stopped => 0
  | .waiting _ => 1
  | .running => 2

/-- Abort causes by the detail of ABORTED(cause), 0 when absent (11 R203). -/
def causeByte : Option AbortCause → Byte
  | some c => BitVec.ofNat 8 (causeDetail c)
  | none => 0

/-- End reasons by their code, 0 when absent (11 R203). -/
def endByte : Option EndReason → Byte
  | some r => BitVec.ofNat 8 (endCode r)
  | none => 0

/-- An index 0 to 7 from its byte. -/
def indexOf (n : Nat) : Option (Fin 8) := if h : n < 8 then some ⟨n, h⟩ else none

end Sys2Proof.Machine
end

