-- ==== Sys2Proof/Machine/SeqCmds.lean ====
section
/-! DEFINITION. The Test Sequencer's requests and timer (07): arming, triggers, test start, hold and resume, the ends
asked for by the host, the method record and the phase table; with TARE, ZERO_EXT, SET_SPECIMEN and SET_LOOP. -/

namespace Sys2Proof.Machine

/-! ## Arming (07 R127, R128) -/

/-- A monitor is enabled. -/
def State.monitorEnabled (s : State) (m : Nat) : Bool := (s.mon.bank.get (Fin.ofNat 8 m)).enable

/-- The phases at indices below the phase count. -/
def State.usedPhases (s : State) : List Phase := s.seq.phases.toList.take s.seq.method.phaseCount

/-- The method is valid (07 R127). -/
def State.methodValid (s : State) : Bool :=
  let m := s.seq.method
  decide (1 ≤ m.phaseCount) &&
  s.usedPhases.all (fun p => p.vmax != 0) &&
  s.usedPhases.all (fun p => p.exit != .monitor || s.monitorEnabled p.arg) &&
  (match m.policy, m.cond with
   | .none, _ => true
   | _, some (.monitor k) => s.monitorEnabled k.val
   | _, _ => true) &&
  s.strain.specimen.area != 0 && s.strain.specimen.lc != 0

/-- The conditions of ARM from its third row to its last (07 R128), which the trigger checks again (R129). -/
def State.armRows (s : State) : List (Bool × Reason) :=
  [(s.store.save.isNone, .busy), (s.store.calValid, .calInvalid), (s.loadLocked, .loadUnlocked),
   (!s.prot.latched.any, .faultLatched), (s.motion.state == .standby, .wrongState),
   (s.motion.queue.isEmpty, .queueNotEmpty),
   (s.force.tareOp.isNone && s.ext.primary.op.isNone && s.ext.secondary.op.isNone, .busy),
   (s.gripsSettled, .gripsNotSettled), (s.methodValid, .methodInvalid)]

/-! ## Test start (07 R131) -/

/-- The source chosen at test start (02 R31 step 3). -/
def State.chosenSource (s : State) : Source :=
  if s.ext.primary.state == .ready then .primary
  else if s.ext.secondary.state == .ready then .secondary else .crosshead

/-- The zero of the test (02 R31), with the firings it brings. -/
def testZero (s : State) : State :=
  let s1 := { s with strain := { s.strain with p0 := s.position, stitch := 0, source := s.chosenSource } }
  let s2 := formCrosshead s1
  giveFirings false (formActive (s2.reading s2.strain.source) s2)

/-- The Handler's part of test start (03 R41, R46, R59). -/
def startHandler (s : State) : State :=
  let s1 := match s.strain.source with
    | .primary => updExt .primary (fun e => { e with state := .active }) s
    | .secondary => updExt .secondary (fun e => { e with state := .active }) s
    | .crosshead => s
  let m := s.seq.method
  { s1 with ext := { s1.ext with
      removal := { RemovalRecord.init with policy := m.policy, cond := if m.policy == .none then none else m.cond }
      slipM := s1.ext.primary.strain, slipX := s1.strain.epsC } }

/-- The Sample Log's part of test start: cleared and started (10 R189). -/
def clearLog (s : State) : State :=
  startLog { s with log := { s.log with ring := [], seqNo := 0, gap := 0 } }

/-- Every enabled monitor of scope TEST goes to ARMED (08 R152). -/
def armMonitors (s : State) : State :=
  { s with mon := { s.mon with bank := s.mon.bank.map (fun m =>
      if m.enable && !m.always then { m with state := .armed } else m) } }

/-- Steps 1 to 5 of test start (07 R131): test time, zero, Handler, peak, results. -/
def startBlocks (s : State) : State :=
  let s1 := { s with time := { s.time with testTime := 0, testRunning := true, msSeen := 0 } }
  let s2 := startHandler (testZero s1)
  openResult { s2 with force := { s2.force with fmax := 0, strainAtFmax := 0, hasPoint := false } }

/-- Steps 8 to 10 of test start (07 R131): the Sequencer's items, TEST, STARTED. The moment HELD was last entered, of
which R131 says nothing, is none at a test start (Log 61). -/
def startRunning (s : State) : State :=
  let s1 := { s with seq := { s.seq with
    held := HeldSet.empty, pendingExit := false, armedTrigger := none, endReason := none, abortCause := none,
    state := .running, phase := 0, heldSince := none, fractured := false } }
  raise 0x0602 s1.strain.p0 (enterMotion .test s1)

/-- A test starts (07 R131). Events raised before the log is cleared are routed before it (10 R192; Log 4). -/
def testStart (s : State) : State :=
  let s1 := startRunning (armMonitors (clearLog (drainEvents (startBlocks (drainEvents s)))))
  let s2 := enterPhase false s1
  if s2.exitHolds then leavePhase giveFirings false s2 else s2

/-- The request ARM (07 R128); the acceptance reports the state that results. -/
def reqArm (p : List Byte) (s : State) : Answer :=
  let n := fieldU p 0 1
  checked ((decide (n ≤ 15), .badValue) :: (s.seq.state == .idle, .wrongState) :: s.armRows) s
    (let s1 := raise 0x0601 n { s with seq := { s.seq with state := .armed, armedTrigger := some n } }
     let s2 := if n = 0 then testStart s1 else s1
     accept s2 [seqCode s2.seq.state])

/-! ## Triggers (07 R129, 08 R163) -/

/-- The armed test fires: the conditions are checked again, and the test starts or leaves ARMED (07 R129). -/
def fireArmed (s : State) : State :=
  match firstFailing s.armRows with
  | none => testStart s
  | some r => disarm .triggerCheck (reasonCode r) s

/-- A trigger is given to the Sequencer (07 R129). -/
def triggerSeq (n : Nat) (s : State) : State :=
  if s.seq.state == .armed && (n == 0 || s.seq.armedTrigger == some n) then fireArmed s else s

/-- A trigger is given to the Sample Log (10 R188). -/
def triggerLog (n : Nat) (s : State) : State :=
  match s.log.state with
  | .waiting t => if n == 0 || n == t then startLog s else s
  | .stopped => s
  | .running => s

/-- A trigger is given to each party that may wait on one: queue head, armed test, log (08 R163). -/
def giveTrigger (n : Nat) (s : State) : State := triggerLog n (triggerSeq n (triggerHead n s))

/-- The request TRIGGER (08 R163). -/
def reqTrigger (p : List Byte) (s : State) : Answer :=
  let n := fieldU p 0 1
  checked [(decide (n ≤ 15), .badValue)] s (accept (raise (0x0A10 + n) 0 (giveTrigger n s)) [])

/-! ## Hold, resume and the ends asked for (07 R137 to R147) -/

/-- The request HOLD (07 R137). -/
def reqHold (s : State) : Answer :=
  checked [(s.inTest, .wrongState)] s
    (let s1 := joinHeld .host s
     accept s1 (bSet s1.seq.held.members))

/-- The reasons RESUME withdraws leave the set (07 R138). -/
def withdrawReasons (s : State) : State :=
  { s with seq := { s.seq with held := { HeldSet.empty with removal := s.seq.held.removal } } }

/-- The request RESUME (07 R138). -/
def reqResume (s : State) : Answer :=
  checked
    [(s.inTest, .wrongState), (!s.seq.held.grip || s.gripsClosed, .gripsOpen),
     (!s.seq.held.lockLoss || s.loadLocked, .loadUnlocked)] s
    (let s1 := withdrawReasons s
     accept (heldLeft giveFirings s1) (bSet s1.seq.held.members))

/-- The request END (07 R143). -/
def reqEnd (s : State) : Answer :=
  checked [(s.testing, .wrongState)] s (accept (if s.inTest then finish .endReq 0 s else s) [])

/-- The request ABORT (07 R145). -/
def reqAbort (s : State) : Answer :=
  checked [(s.testing || s.seq.state == .armed, .wrongState)] s (accept (abortCause .host s) [])

/-- CLEAR_TEST's part on an extensometer (03 R42). -/
def clearExt (locked : Bool) (e : Ext) : Ext := { e with zeroed := false, state := derivedExtState locked false }

/-- A finished test is discarded (07 R147; 03 R42). FRACTURED goes low (08 R165). -/
def clearTest (s : State) : State :=
  { s with
    result := { s.result with record := none }
    ext := { s.ext with
      primary := clearExt (s.extLocked .primary) s.ext.primary
      secondary := clearExt (s.extLocked .secondary) s.ext.secondary
      removal := RemovalRecord.init }
    seq := { s.seq with endReason := none, abortCause := none, phase := 0, state := .idle, fractured := false } }

/-- The request CLEAR_TEST (07 R147). -/
def reqClearTest (s : State) : Answer :=
  checked [(s.betweenTests, .wrongState)] s (accept (if s.seq.state == .idle then s else clearTest s) [])

/-- The request EXT_CONFIRM (03 R53). -/
def reqExtConfirm (s : State) : Answer :=
  checked [(s.ext.removal.inFlight, .wrongState)] s (accept (confirmRemoval giveFirings .hostConfirm s) [])

/-- PHASE_TIMER_EXPIRY (07 R135): the exit of a phase of kind TIME is met. -/
def doPhaseTimerExpiry (s : State) : State :=
  if s.inTest && s.seq.phaseStart.isSome then settle (tellExit giveFirings .time s) else s

/-- The command PHASE_TIMER_EXPIRY. -/
def execPhaseTimerExpiry (s : State) : Outcome := .next (doPhaseTimerExpiry s)

/-- REMOVAL_TIMER_EXPIRY (03 R50, R52). A timer that does not run does not expire. -/
def doRemovalTimerExpiry (s : State) : State :=
  match s.ext.removal.timer with
  | .running _ => settle (expireRemoval s)
  | .stopped => s
  | .expired => s

/-- The command REMOVAL_TIMER_EXPIRY. -/
def execRemovalTimerExpiry (s : State) : Outcome := .next (doRemovalTimerExpiry s)

/-! ## The method record (07 R125) -/

/-- A number lies within bounds, both included. -/
def within (lo hi n : Nat) : Bool := decide (lo ≤ n) && decide (n ≤ hi)

/-- The method record of a payload, where every field lies within its accepted values (07 R125, 11 R203). -/
def methodOf (p : List Byte) : Option Method :=
  match flagOf (fieldU p 1 1), policyOf (fieldU p 2 1), flagOf (fieldU p 14 1), flagOf (fieldU p 49 1) with
  | some sz, some pol, some lock, some brk =>
    let cond := if pol == .none then none else condOf (fieldU p 3 1)
    let m : Method := {
      phaseCount := fieldU p 0 1, strainZero := sz, policy := pol, cond := cond, timeout := fieldU p 4 2,
      guardMargin := fieldU p 6 4, slip := fieldU p 10 4, lockAbort := lock, fitLower := fieldU p 15 4,
      fitUpper := fieldU p 19 4, proofOffset := fieldU p 23 4, yieldDrop := fieldU p 27 2,
      transient := fieldU p 29 4, yieldLimit := fieldU p 33 4, plateauLimit := fieldU p 37 4,
      fmaxPass := fieldU p 41 2, fracture := fieldU p 43 2, minFracture := fieldU p 45 4, useBreak := brk,
      gripSettle := fieldU p 50 2 }
    if within 0 8 m.phaseCount && (pol == .none || cond.isSome) && within 1 60 m.timeout &&
        within 0 8388607 m.guardMargin && within 0 2147483647 m.slip && within 0 2147483646 m.fitLower &&
        within 1 2147483647 m.fitUpper && decide (m.fitLower < m.fitUpper) && within 1 2147483647 m.proofOffset &&
        within 1 999 m.yieldDrop && within 0 2147483647 m.transient && within 1 2147483647 m.yieldLimit &&
        within 1 2147483647 m.plateauLimit && within 1 999 m.fmaxPass && within 1 999 m.fracture &&
        within 0 2147483647 m.minFracture && within 0 65535 m.gripSettle
    then some m else none
  | _, _, _, _ => none

/-- The 52 bytes of a method record (11 R203). -/
def methodBytes (m : Method) : List Byte :=
  b1 m.phaseCount ++ bFlag m.strainZero ++ [policyCode m.policy, condCode m.cond] ++ b2 m.timeout ++
  b4 m.guardMargin ++ b4 m.slip ++ bFlag m.lockAbort ++ b4 m.fitLower ++ b4 m.fitUpper ++ b4 m.proofOffset ++
  b2 m.yieldDrop ++ b4 m.transient ++ b4 m.yieldLimit ++ b4 m.plateauLimit ++ b2 m.fmaxPass ++ b2 m.fracture ++
  b4 m.minFracture ++ bFlag m.useBreak ++ b2 m.gripSettle

/-- The request SET_METHOD (07 R125); no payload is a query. -/
def reqSetMethod (p : List Byte) (s : State) : Answer :=
  checked [(s.betweenTests, .wrongState)] s
    (if p.isEmpty then accept s (methodBytes s.seq.method)
     else match methodOf p with
       | none => refuse .badValue s
       | some m => accept { s with seq := { s.seq with method := m } } (methodBytes m))

/-! ## The phase table (07 R126) -/

/-- The phase record of a payload, as it is stored (07 R126). -/
def phaseOf (p : List Byte) (vmaxMachine : Nat) : Option Phase :=
  match modeOf (fieldU p 1 1), exitOf (fieldU p 10 1) with
  | some mode, some exit =>
    let vmax := fieldU p 6 4
    let arg := fieldU p 11 4
    if vmax = 0 then none
    else if exit == .monitor && decide (7 < arg) then none
    else if exit == .time && !within 1 3600000 arg then none
    else some {
      mode := mode, rate := if mode == .holdPosition then 0 else fieldS p 2 4, vmax := min vmax vmaxMachine,
      exit := exit, arg := if exit == .monitor || exit == .time then arg else 0 }
  | _, _ => none

/-- The bytes of a phase table entry. -/
def phaseBytes (q : Phase) : List Byte :=
  [modeCode q.mode] ++ i4 q.rate ++ b4 q.vmax ++ [exitCode q.exit] ++ b4 q.arg

/-- The request SET_PHASE (07 R126); an index alone is a query. -/
def reqSetPhase (p : List Byte) (s : State) : Answer :=
  match indexOf (fieldU p 0 1) with
  | none => if p.length = 1 then refuse .badValue s else if s.betweenTests then refuse .badValue s else refuse .wrongState s
  | some k =>
    if p.length = 1 then accept s (phaseBytes (s.seq.phases.get k))
    else checked [(s.betweenTests, .wrongState)] s
      (match phaseOf p s.store.cal.vmax with
       | none => refuse .badValue s
       | some q => accept { s with seq := { s.seq with phases := s.seq.phases.set k q } } (phaseBytes q))

/-! ## SET_SPECIMEN, SET_LOOP (02 R22, 05 R91) -/

/-- The specimen record of a payload, where every field lies within its accepted range (02 R22). -/
def specimenOf (p : List Byte) : Option Specimen :=
  let r : Specimen := { area := fieldU p 0 4, lc := fieldU p 4 4, l0Prim := fieldU p 8 4, l0Sec := fieldU p 12 4,
                        eMin := fieldU p 16 4, eMax := fieldU p 20 4 }
  if within 1 4000000000 r.area && within 1000 2000000 r.lc && within 1000 2000000 r.l0Prim &&
      within 1000 2000000 r.l0Sec && within 1 1000000 r.eMin && within r.eMin 1000000 r.eMax then some r else none

/-- The bytes of a specimen record. -/
def specimenBytes (r : Specimen) : List Byte :=
  b4 r.area ++ b4 r.lc ++ b4 r.l0Prim ++ b4 r.l0Sec ++ b4 r.eMin ++ b4 r.eMax

/-- The request SET_SPECIMEN (02 R22); no payload is a query. -/
def reqSetSpecimen (p : List Byte) (s : State) : Answer :=
  checked [(s.betweenTests, .wrongState)] s
    (if p.isEmpty then accept s (specimenBytes s.strain.specimen)
     else match specimenOf p with
       | none => refuse .badValue s
       | some r => accept { s with strain := { s.strain with specimen := r } } (specimenBytes r))

/-- The bytes of a gain set. -/
def gainBytes (g : Gains) : List Byte := b4 g.kp ++ b4 g.ki

/-- A gain set by its number: 0 POSITION, 1 STRESS, 2 STRAIN (05 R91). -/
def RateLoop.gainSet (l : RateLoop) (k : Nat) : Gains := if k = 0 then l.gPos else if k = 1 then l.gStress else l.gStrain

/-- A gain set replaced. -/
def RateLoop.setGains (l : RateLoop) (k : Nat) (g : Gains) : RateLoop :=
  if k = 0 then { l with gPos := g } else if k = 1 then { l with gStress := g } else { l with gStrain := g }

/-- The request SET_LOOP (05 R91); a set number alone is a query. -/
def reqSetLoop (p : List Byte) (s : State) : Answer :=
  let k := fieldU p 0 1
  checked [(decide (k ≤ 2), .badValue)] s
    (if p.length = 1 then accept s (gainBytes (s.loop.gainSet k))
     else
       let g : Gains := { kp := fieldU p 1 4, ki := fieldU p 5 4 }
       accept { s with loop := s.loop.setGains k g } (gainBytes g))

/-! ## TARE, ZERO_EXT (01 R17, 03 R43) -/

/-- The request TARE (01 R17). -/
def reqTare (s : State) : Answer :=
  checked
    [(s.betweenTests, .wrongState), (s.store.calValid, .calInvalid), (s.loadLocked, .loadUnlocked),
     (s.force.tareOp.isNone, .busy)] s
    (accept { s with force := { s.force with tareOp := some { count := 0, sum := 0 } } } [])

/-- The request ZERO_EXT (03 R43). -/
def reqZeroExt (p : List Byte) (s : State) : Answer :=
  let n := fieldU p 0 1
  let x : ExtNo := if n = 1 then .primary else .secondary
  checked
    [(n == 1 || n == 2, .badValue), (s.seq.state == .idle, .wrongState), (s.extLocked x, .extNotReady),
     (x == .secondary || !s.armsOpen, .armsOpen), ((s.ext.get x).op.isNone, .busy)] s
    (accept (updExt x (fun e => { e with op := some { count := 0, sum := 0 } }) s) [])

end Sys2Proof.Machine
end

