-- ==== Sys2Proof/Machine/LogTime.lean ====
section
/-! DEFINITION. The Sample Log's and the Time Base's commands (10). -/

namespace Sys2Proof.Machine

/-! ## Samples (10 R191) -/

/-- A SAMPLE is stored at the tail with a number issued (10 R187, R191). -/
def storeSample (n : Nat) (s : State) : State :=
  pushLog (s.logStamp .sample n s.force.f s.strain.stress s.strain.active s.position) s

/-- A sample is skipped: the gap counter rises, its first number is kept, and a test's record is flagged (10 R191). -/
def skipSample (n : Nat) (s : State) : State :=
  let s1 := { s with log := { s.log with
    gap := satU32 (s.log.gap + 1), firstSkipped := if s.log.gap = 0 then n else s.log.firstSkipped } }
  if s.testing then updFlags (fun f => { f with logGaps := true }) s1 else s1

/-- A sample falls due (10 R191). -/
def sampleDue (s : State) : State :=
  let n := s.log.seqNo
  if 4294967295 < n then stopLog 3 s
  else
    let s1 := { s with log := { s.log with seqNo := n + 1 } }
    if s.log.gap = 0 then (if s.logFree = 0 then skipSample n s1 else storeSample n s1)
    else if 2 ≤ s.logFree then storeSample n (storeGap s1)
    else skipSample n s1

/-- LOG_INTERVAL_EXPIRY (10 R190): the timer restarts and a sample falls due. -/
def doLogIntervalExpiry (s : State) : State :=
  match s.log.due with
  | none => s
  | some t =>
    settle (sampleDue { s with log := { s.log with due := some (t + s.log.interval * Config.logUnitUs) } })

/-- The command LOG_INTERVAL_EXPIRY. -/
def execLogIntervalExpiry (s : State) : Outcome := .next (doLogIntervalExpiry s)

/-! ## Log requests (10 R188, R190, R193) -/

/-- The request LOG_START (10 R188). -/
def reqLogStart (p : List Byte) (s : State) : Answer :=
  let n := fieldU p 0 1
  checked
    [(decide (n ≤ 15), .badValue), (s.betweenTests || s.seq.state == .armed, .wrongState),
     (s.log.state == .stopped, .wrongState)] s
    (accept (if n = 0 then startLog s else { s with log := { s.log with state := .waiting n } }) [])

/-- The request LOG_STOP (10 R188). -/
def reqLogStop (s : State) : Answer :=
  checked [(!s.testing, .wrongState)] s (accept (if s.log.state == .stopped then s else stopLog 1 s) [])

/-- The flags byte of a log record (11 R203). -/
def logFlags (r : LogRecord) : Byte :=
  BitVec.ofNat 8 ((if r.held then 1 else 0) + (if r.inFlight then 2 else 0) + (if r.fractured then 4 else 0) +
    8 * sourceCode r.source)

/-- The force field of a log record (11 R203): the force of a SAMPLE, the event code of a MARK, and of a GAP the gap
counter, which is unsigned (10 R191). -/
def forceField (r : LogRecord) : List Byte :=
  match r.kind with
  | .gap => u4 r.force.toNat
  | .sample => i4 r.force
  | .mark => i4 r.force

/-- The 28 bytes of a log record (11 R203). -/
def logRecordBytes (r : LogRecord) : List Byte :=
  [logKindCode r.kind, logFlags r] ++ b1 r.phase ++ [0] ++ b4 r.seqNo ++ b4 r.testTime ++ forceField r ++ i4 r.stress ++
  i4 r.strain ++ i4 r.position

/-- The request READ_LOG (10 R193). -/
def reqReadLog (p : List Byte) (s : State) : Answer :=
  let n := fieldU p 0 1
  checked [(within 1 8 n, .badValue)] s (accept (dropRing n s) ((s.log.ring.take n).flatMap logRecordBytes))

/-- The request STREAM (10 R193). -/
def reqStream (p : List Byte) (s : State) : Answer :=
  match flagOf (fieldU p 0 1) with
  | none => refuse .badValue s
  | some b => accept { s with log := { s.log with stream := b } } (bFlag b)

/-- The request SET_LOG (10 R190); no payload is a query. -/
def reqSetLog (p : List Byte) (s : State) : Answer :=
  if p.isEmpty then accept s (b2 s.log.interval)
  else
    let v := max 1 (min 2000 (fieldU p 0 2))
    accept { s with log := { s.log with interval := v } } (b2 v)

/-! ## Test time and mill time (10 R195, R196) -/

/-- The step is added to the fraction and the nanoseconds taken together (10 R196). -/
def TimeBase.addStep (t : TimeBase) : TimeBase :=
  let x := t.ns * 4294967296 + t.frac + t.step
  let ns := x / 4294967296
  { t with frac := x % 4294967296, ns := ns % 1000000000, sec := (t.sec + ns / 1000000000) % 4294967296 }

/-- MILL_TIME_STEP: a microsecond of the crystal (10 R195, R196; Log 3). -/
def doMillTimeStep (s : State) : State :=
  let t := s.time.addStep
  { s with time := { t with
      crystal := t.crystal + 1
      testTime := if t.testRunning then satU32 (t.testTime + 1) else t.testTime } }

/-- The command MILL_TIME_STEP. -/
def execMillTimeStep (s : State) : Outcome := .next (doMillTimeStep s)

/-- TEST_TIME_MS_TICK: the whole-millisecond count of test time increases and is given to the monitors (08 R153). Test
time stands at the new millisecond or past it (Log 3). A saturated count makes no further increase (10 R195). -/
def doTestTimeMsTick (s : State) : State :=
  let k := s.time.msSeen + 1
  if s.time.testRunning && decide (k * 1000 ≤ 4294967295) then
    let behind := k * 1000 - s.time.testTime
    settle (giveFirings false (evalMonitors .testTimeMs k { s with time := { s.time with
      testTime := s.time.testTime + behind, crystal := s.time.crystal + behind, msSeen := k } }))
  else s

/-- The command TEST_TIME_MS_TICK. -/
def execTestTimeMsTick (s : State) : Outcome := .next (doTestTimeMsTick s)

/-- The request SET_TIME (10 R197). -/
def reqSetTime (p : List Byte) (s : State) : Answer :=
  checked [(decide (fieldU p 4 4 ≤ 999999999), .badValue)] s
    (accept { s with time := { s.time with sec := fieldU p 0 4, ns := fieldU p 4 4, frac := 0 } } [])

/-- The request ADJUST_TIME (10 R197). -/
def reqAdjustTime (p : List Byte) (s : State) : Answer :=
  let x : Int := (s.time.sec : Int) * 1000000000 + s.time.ns + fieldS p 0 8
  accept { s with time := { s.time with
    ns := (x % 1000000000).toNat, sec := ((x / 1000000000) % 4294967296).toNat } } []

/-- The step of a trim in ppb (10 R196). -/
def trimStep (trim : Int) : Nat := (roundDiv (4294967296000 * (1000000000 + trim)) 1000000000).toNat

/-- The request TRIM_TIME (10 R196). -/
def reqTrimTime (p : List Byte) (s : State) : Answer :=
  let t := clampTo (-100000) 100000 (fieldS p 0 4)
  accept { s with time := { s.time with trim := t, step := trimStep t } } (i4 t)

/-- The request READ_TIME (10 R197). -/
def reqReadTime (s : State) : Answer :=
  accept s (b4 s.time.sec ++ b4 s.time.ns ++ b4 s.time.testTime ++ i4 s.time.trim)

end Sys2Proof.Machine
end

