-- ==== Sys2Proof/Machine/Inputs.lean ====
section
/-! DEFINITION. The discrete inputs and output lines (08 R161 to R164, R166), and the requests SET_MONITOR, SET_ROUTE
and SET_OUTPUT. -/

namespace Sys2Proof.Machine

/-! ## Inputs (08 R161 to R163) -/

/-- One input is changed. -/
def updInput (k : Fin 8) (g : Input → Input) (s : State) : State := { s with ins := s.ins.set k (g (s.ins.get k)) }

/-- BREAK_DETECT becomes asserted (09 R179). -/
def breakEdge (s : State) : State :=
  if s.seq.method.useBreak && s.result.fracArmed && s.inTest then takeFracture s else s

/-- The consumers of an input take its new asserted level (08 R162). -/
def consumeInput (k : Fin 8) (now : Bool) (s : State) : State :=
  match k with
  | 0 => if now then s else estopOpened s
  | 1 => if now then testOvertravel s else s
  | 2 => if now then testOvertravel s else s
  | 3 => followBlanking (!now && s.motion.driveEn) s
  | 4 => if now then s else gripsOpened s
  | 5 => armsChange now s
  | 6 => if now then breakEdge s else s
  | 7 => if now then giveTrigger s.store.cal.triggerIn s else s

/-- An asserted level has changed: consumers, INPUT_CHANGED(n), and after it TRIGGER(n) (08 R162, R163; Log 29). -/
def inputChanged (k : Fin 8) (now : Bool) (s : State) : State :=
  let s1 := raise (0x0A00 + k.val) (if now then 1 else 0) (consumeInput k now s)
  if k == 7 && now then raise (0x0A10 + s.store.cal.triggerIn) 1 s1 else s1

/-- The asserted level of a filtered level (08 R161). -/
def State.assertedOf (s : State) (k : Fin 8) (filtered : Bool) : Bool := filtered != s.store.cal.invert.get k

/-- The asserted level of an input is formed again; a change of it is given to its consumers. -/
def formAsserted (k : Fin 8) (s : State) : State :=
  let now := s.assertedOf k (s.ins.get k).filtered
  let s1 := updInput k (fun i => { i with asserted := now }) s
  if now == (s.ins.get k).asserted then s1 else inputChanged k now s1

/-- The filtered level takes the raw level, and the timer stops (08 R161). -/
def takeRawLevel (k : Fin 8) (s : State) : State :=
  formAsserted k (updInput k (fun i => { i with filtered := i.raw, timer := none }) s)

/-- INPUT_RAW_CHANGE (08 R161). In INIT only the pin level is taken (08 R162). -/
def doInputRawChange (k : Fin 8) (level : Bool) (s : State) : State :=
  let i := s.ins.get k
  let s1 := updInput k (fun i => { i with raw := level }) s
  if !s.store.ready || level == i.raw then s1
  else if level == i.filtered then updInput k (fun i => { i with timer := none }) s1
  else if s.store.cal.filterMs.get k = 0 then settle (takeRawLevel k s1)
  else updInput k (fun i => { i with timer := s.after (s.store.cal.filterMs.get k * 1000) }) s1

/-- The command INPUT_RAW_CHANGE. -/
def execInputRawChange (k : Fin 8) (level : Bool) (s : State) : Outcome := .next (doInputRawChange k level s)

/-- INPUT_FILTER_EXPIRY (08 R161). A timer that does not run does not expire. -/
def doInputFilterExpiry (k : Fin 8) (s : State) : State :=
  if (s.ins.get k).timer.isSome then settle (takeRawLevel k s) else s

/-- The command INPUT_FILTER_EXPIRY. -/
def execInputFilterExpiry (k : Fin 8) (s : State) : Outcome := .next (doInputFilterExpiry k s)

/-- The inputs' levels are established at the end of the calibration load, without filtering and without a change
taken (08 R162). -/
def establishInputs (s : State) : State :=
  indices.foldl (fun t k => updInput k (fun i =>
    { i with filtered := i.raw, asserted := t.assertedOf k i.raw, timer := none }) t) s

/-! ## Output lines (08 R164, R166) -/

/-- PULSE_TIMER_EXPIRY (08 R166). A timer that does not run does not expire. -/
def doPulseTimerExpiry (k : Fin 8) (s : State) : State :=
  { s with outs := s.outs.set k { s.outs.get k with pulse := none } }

/-- The command PULSE_TIMER_EXPIRY. -/
def execPulseTimerExpiry (k : Fin 8) (s : State) : Outcome := .next (doPulseTimerExpiry k s)

/-- The bytes of a line's configuration: source, signal, monitor index, invert flag, pulse width (08 R164). -/
def outputBytes (o : Output) : List Byte := outSourceBytes o.source ++ bFlag o.invert ++ b2 o.width

/-- The configuration of a payload, where every field lies within its list (08 R164). -/
def outputOf (p : List Byte) : Option Output :=
  match outSourceOf (fieldU p 1 1) (fieldU p 2 1) (fieldU p 3 1), flagOf (fieldU p 4 1) with
  | some src, some inv =>
    if decide (fieldU p 3 1 ≤ 7) && within 1 1000 (fieldU p 5 2) then
      some { source := src, invert := inv, width := fieldU p 5 2, pulse := none }
    else none
  | _, _ => none

/-- The request SET_OUTPUT (08 R164); an index alone is a query. -/
def reqSetOutput (p : List Byte) (s : State) : Answer :=
  match indexOf (fieldU p 0 1) with
  | none => refuse .badValue s
  | some k =>
    if p.length = 1 then accept s (outputBytes (s.outs.get k) ++ bFlag (s.outLevel k))
    else match outputOf p with
      | none => refuse .badValue s
      | some o => accept { s with outs := s.outs.set k o } (outputBytes o)

/-! ## SET_MONITOR, SET_ROUTE (08 R151, R157) -/

/-- The monitor of a payload with its new state, where every field lies within its list (08 R151). -/
def monitorOf (p : List Byte) (kept : Int) : Option Monitor :=
  match flagOf (fieldU p 1 1), quantityOf (fieldU p 2 1), flagOf (fieldU p 3 1) with
  | some en, some q, some fall =>
    match flagOf (fieldU p 12 1), flagOf (fieldU p 13 1) with
    | some re, some al =>
      some { enable := en, quantity := q, falling := fall, threshold := fieldS p 4 4, hysteresis := fieldU p 8 4,
             rearm := re, always := al, state := if en then .armed else .disabled, value := kept }
    | _, _ => none
  | _, _, _ => none

/-- The bytes of a monitor's record and state. -/
def monitorBytes (m : Monitor) : List Byte :=
  bFlag m.enable ++ [quantityCode m.quantity] ++ bFlag m.falling ++ i4 m.threshold ++ b4 m.hysteresis ++
  bFlag m.rearm ++ bFlag m.always ++ [monitorStateCode m.state]

/-- The request SET_MONITOR (08 R151); an index alone is a query. R151 gives its two refusals of a record no order: that
BAD_VALUE comes before WRONG_STATE is the model's choice (Log 47). -/
def reqSetMonitor (p : List Byte) (s : State) : Answer :=
  match indexOf (fieldU p 0 1) with
  | none => refuse .badValue s
  | some k =>
    if p.length = 1 then accept s (monitorBytes (s.mon.bank.get k))
    else match monitorOf p (s.mon.bank.get k).value with
      | none => refuse .badValue s
      | some m =>
        checked [(!s.testing, .wrongState)] s
          (accept { s with mon := { s.mon with bank := s.mon.bank.set k m } } (monitorBytes m))

/-- The route entry of a payload, where its fields lie within their lists (08 R157). -/
def routeOf (p : List Byte) : Option Route :=
  match flagOf (fieldU p 1 1), flagOf (fieldU p 5 1) with
  | some en, some silent =>
    if fieldU p 4 1 ≤ 16 then
      some { enable := en, code := fieldU p 2 2, len := fieldU p 4 1, silent := silent,
             mark := (BitVec.ofNat 8 (fieldU p 6 1)).getLsbD 0, hold := (BitVec.ofNat 8 (fieldU p 6 1)).getLsbD 1,
             mask := BitVec.ofNat 8 (fieldU p 7 1) }
    else none
  | _, _ => none

/-- The bytes of a route entry. -/
def routeBytes (r : Route) : List Byte :=
  bFlag r.enable ++ b2 r.code ++ b1 r.len ++ bFlag r.silent ++ bSet [r.mark, r.hold] ++ [r.mask]

/-- The request SET_ROUTE (08 R157); an index alone is a query. -/
def reqSetRoute (p : List Byte) (s : State) : Answer :=
  match indexOf (fieldU p 0 1) with
  | none => refuse .badValue s
  | some k =>
    if p.length = 1 then accept s (routeBytes (s.router.routes.get k))
    else match routeOf p with
      | none => refuse .badValue s
      | some r => accept { s with router := { s.router with routes := s.router.routes.set k r } } (routeBytes r)

end Sys2Proof.Machine
end

