-- ==== Sys2Proof/Machine/CalCmds.lean ====
section
/-! DEFINITION. The Calibration Store (11 R207 to R209): the 106-byte record, the stored block, load and save, and the
requests GET_CAL, SET_CAL and SAVE_CAL. -/

namespace Sys2Proof.Machine

/-! ## The calibration record (11, "Calibration record") -/

/-- Eight numbers in eight bytes. -/
def eightBytes (v : Eight Nat) : List Byte := v.toList.flatMap b1

/-- Eight flags in one byte, bit n for number n. -/
def eightFlags (v : Eight Bool) : List Byte := bSet v.toList

/-- The 106 bytes of a calibration record, in the order of the table. -/
def calBytes (c : Calibration) : List Byte :=
  i4 c.range0.zero ++ i4 c.range1.zero ++ i4 c.range2.zero ++ i4 c.range3.zero ++
  i4 c.range0.gain ++ i4 c.range1.gain ++ i4 c.range2.gain ++ i4 c.range3.gain ++
  b4 c.fcap ++ b4 c.flim ++ i4 c.pitchPrim ++ i4 c.pitchSec ++ b4 c.travelPrim ++ b4 c.travelSec ++
  i4 c.encPitch ++ b4 c.compliance ++ b4 c.vmax ++ b4 c.amax ++ b4 c.stopDecel ++ b1 c.dwellMs ++
  b4 c.blindSpeed ++ b1 c.blankingMs ++ bFlag c.retryEnable ++ b2 c.offTimeMs ++ b1 c.retryLimit ++
  eightBytes c.filterMs ++ eightFlags c.invert ++ b2 c.keepaliveMs ++ b1 c.triggerIn ++ c.serial

/-- Eight one-byte numbers at an offset. -/
def eightAt (p : List Byte) (off : Nat) : Eight Nat :=
  ⟨fieldU p off 1, fieldU p (off + 1) 1, fieldU p (off + 2) 1, fieldU p (off + 3) 1, fieldU p (off + 4) 1,
   fieldU p (off + 5) 1, fieldU p (off + 6) 1, fieldU p (off + 7) 1⟩

/-- Eight flags from a byte. -/
def eightBits (n : Nat) : Eight Bool :=
  ⟨n.testBit 0, n.testBit 1, n.testBit 2, n.testBit 3, n.testBit 4, n.testBit 5, n.testBit 6, n.testBit 7⟩

/-- The record that 106 bytes carry, as they stand. SET_CAL admits 0 and 1 for the retry enable (R208). In a stored
record R207 takes whatever matches its CRC, and says nothing of another byte there: the model reads it as not enabled
(Log 63). What its readers make of another field outside SET_CAL's accepted values is the model's choice (Log 64). -/
def calOf (p : List Byte) : Calibration :=
  { range0 := ⟨fieldS p 0 4, fieldS p 16 4⟩, range1 := ⟨fieldS p 4 4, fieldS p 20 4⟩,
    range2 := ⟨fieldS p 8 4, fieldS p 24 4⟩, range3 := ⟨fieldS p 12 4, fieldS p 28 4⟩,
    fcap := fieldU p 32 4, flim := fieldU p 36 4, pitchPrim := fieldS p 40 4, pitchSec := fieldS p 44 4,
    travelPrim := fieldU p 48 4, travelSec := fieldU p 52 4, encPitch := fieldS p 56 4, compliance := fieldU p 60 4,
    vmax := fieldU p 64 4, amax := fieldU p 68 4, stopDecel := fieldU p 72 4, dwellMs := fieldU p 76 1,
    blindSpeed := fieldU p 77 4, blankingMs := fieldU p 81 1, retryEnable := fieldU p 82 1 == 1,
    offTimeMs := fieldU p 83 2, retryLimit := fieldU p 85 1, filterMs := eightAt p 86,
    invert := eightBits (fieldU p 94 1), keepaliveMs := fieldU p 95 2, triggerIn := fieldU p 97 1,
    serial := (p.drop 98).take 8 }

/-- Every field that is not clamped lies within its accepted values (11, "Calibration record"). -/
def calAccepted (c : Calibration) (retryByte : Nat) : Bool :=
  within 0 2147483647 c.fcap && within 0 c.fcap c.flim && within 0 2147483647 c.travelPrim &&
  within 0 2147483647 c.travelSec && within 0 2147483647 c.compliance && within 1 100000000 c.amax &&
  within 1 100000000 c.stopDecel && [1, 5, 20, 100].contains c.blankingMs && within 0 1 retryByte &&
  [100, 250, 500, 1000].contains c.offTimeMs && within 1 7 c.retryLimit && within 50 2000 c.keepaliveMs &&
  within 0 15 c.triggerIn

/-- The clamped fields, clamped (11, "Calibration record"). -/
def calClamped (c : Calibration) : Calibration :=
  { c with vmax := min c.vmax 8388607, dwellMs := max 1 (min 100 c.dwellMs), blindSpeed := min c.blindSpeed 8388607,
           filterMs := c.filterMs.map (fun t => min t 20) }

/-- Fcap, Flim and G_0 as a usable calibration has them (11 R208, R209). -/
def calUsable (c : Calibration) : Bool := c.fcap != 0 && c.flim != 0 && c.range0.gain != 0

/-- The load fields that a tare depends on differ (01 R19). -/
def loadFieldsDiffer (a b : Calibration) : Bool :=
  a.range0 != b.range0 || a.range1 != b.range1 || a.range2 != b.range2 || a.range3 != b.range3 || a.fcap != b.fcap

/-! ## GET_CAL, SET_CAL (11 R208) -/

/-- The request GET_CAL (11 R208). -/
def reqGetCal (s : State) : Answer :=
  accept s (calBytes s.store.cal ++ bSet [s.store.calValid, s.store.calUnsaved, s.store.save.isSome])

/-- The working copy is replaced (11 R208): a tare may fail, CAL_VALID may clear, the ceiling is formed again, and the
inputs follow their invert flags. The spec gives the inputs that one SET_CAL changes no order, nor a place after the tare
and the ceiling: the model takes them last, 0 to 7 in turn (Log 53). -/
def installCal (c : Calibration) (s : State) : State :=
  let s1 := { s with store := { s.store with
    cal := c, calUnsaved := true, calValid := s.store.calValid && calUsable c } }
  let s2 := if loadFieldsDiffer s.store.cal c then failTare 4 s1 else s1
  indices.foldl (fun t k => formAsserted k t) (updateBlind s2)

/-- The request SET_CAL (11 R208). -/
def reqSetCal (p : List Byte) (s : State) : Answer :=
  let raw := calOf p
  checked
    [(calAccepted raw (fieldU p 82 1), .badValue), (s.betweenTests, .wrongState), (s.store.save.isNone, .busy)] s
    (let c := calClamped raw
     accept (installCal c s) (calBytes c))

/-! ## Save (11 R209) -/

/-- The first 508 bytes of the stored block of a working copy (11 R207). -/
def blockBody (c : Calibration) : List Byte := calBytes c ++ List.replicate 402 0

/-- The stored block of a working copy (11 R207). -/
def blockOf (c : Calibration) : List Byte := blockBody c ++ b4 (crc32 (blockBody c))

/-- The CRC field of a block. -/
def blockCrc (bs : List Byte) : Nat := natOf (bs.drop 508)

/-- The request SAVE_CAL (11 R209). -/
def reqSaveCal (s : State) : Answer :=
  checked [(s.store.save.isNone, .busy), (calUsable s.store.cal, .badValue)] s
    (accept { s with store := { s.store with save := some (blockOf s.store.cal) } } [])

/-- A save ends with the block it read back (11 R209). A different read-back leaves CAL_UNSAVED set: the working copy
and the stored block then differ, whatever the mark was when the save was accepted. -/
def saveEnd (block readBack : List Byte) (s : State) : State :=
  let s1 := { s with store := { s.store with save := none, nv := .bytes readBack } }
  if readBack = block then
    raise 0x0B03 (signedOf 32 (blockCrc block))
      (updateBlind { s1 with store := { s1.store with calValid := true, calUnsaved := false } })
  else raise 0x0B04 1 { s1 with store := { s1.store with calUnsaved := true } }

/-- SAVE_END (11 R209). With no save in flight there is none to end. -/
def doSaveEnd (readBack : List Byte) (s : State) : State :=
  match s.store.save with
  | some block => settle (saveEnd block readBack s)
  | none => s

/-- The command SAVE_END. -/
def execSaveEnd (readBack : List Byte) (s : State) : Outcome := .next (doSaveEnd readBack s)

/-! ## Load (11 R207) -/

/-- The CRC as the load forms it over a stored block (11 R207); over a torn block it is a free value (Log 16). -/
def formedCrc : NvBlock → Int
  | .bytes bs => signedOf 32 (crc32 (bs.take 508))
  | .torn id => (Config.tornBlockCrc id).toInt

/-- The record of a stored block whose CRC matches (11 R207). -/
def loadedCal : NvBlock → Option (Calibration × Nat)
  | .bytes bs => if crc32 (bs.take 508) = blockCrc bs then some (calOf bs, blockCrc bs) else none
  | .torn _ => none

/-- The outcome of the load: the working copy, its flags, and its event (11 R207). -/
def takeLoad (s : State) : State :=
  match loadedCal s.store.nv with
  | some (c, crc) =>
    raise 0x0B01 (signedOf 32 crc) { s with store := { s.store with cal := c, calValid := true, calUnsaved := false } }
  | none =>
    raise 0x0B02 (formedCrc s.store.nv)
      { s with store := { s.store with cal := Calibration.default, calValid := false, calUnsaved := true } }

/-- CAL_LOAD_END (11 R207): the load's outcome, READY, the inputs' levels, the ceiling. Out of INIT no load runs. -/
def doCalLoadEnd (s : State) : State :=
  if s.store.ready then s
  else
    let s1 := takeLoad s
    settle (updateBlind (establishInputs { s1 with store := { s1.store with ready := true } }))

/-- The command CAL_LOAD_END. -/
def execCalLoadEnd (s : State) : Outcome := .next (doCalLoadEnd s)

end Sys2Proof.Machine
end

