-- ==== Sys2Proof/Machine/Reports.lean ====
section
/-! DEFINITION. What the controller reports of itself (11 R203 to R206): IDENTIFY, STATUS, STATS, READ_RESULT, and the
event record. The order of the items is the rules'; where a rule leaves a width open, Log 19 says it. -/

namespace Sys2Proof.Machine

/-! ## Records (11 R203) -/

/-- The 17 bytes of an event record (11 R203). -/
def eventBytes (e : EventRecord) : List Byte :=
  b2 e.code ++ b4 e.sec ++ b4 e.ns ++ i4 e.value ++ b1 e.phase ++ b2 e.lost

/-- The flags byte of a result record (11 R203). -/
def resultFlagBytes (f : ResultFlags) : List Byte :=
  bSet [f.rpFromCrosshead, f.fitPointsCapped, f.reLTransientOnly, f.extLost, f.extNotConfirmed, f.removalTimeout,
        f.logGaps]

/-- The present marks of a result record, as a number (11 R203). -/
def resultMarks (r : ResultRecord) : Nat :=
  (if r.e.isSome then 1 else 0) + (if r.reH.isSome then 2 else 0) + (if r.reL.isSome then 4 else 0) +
  (if r.ae.isSome then 8 else 0) + (if r.rp.isSome then 16 else 0) + (if r.ag.isSome then 32 else 0) +
  (if r.brk.isSome then 64 else 0) + (if r.af.isSome then 128 else 0) + (if r.removal.isSome then 256 else 0)

/-- An absent item is sent as 0 (11 R203). -/
def orZero (x : Option Int) : List Byte := i4 (match x with | some v => v | none => 0)

/-- The 71 bytes of the READ_RESULT acceptance (11 R203). -/
def resultBytes (r : ResultRecord) : List Byte :=
  bFlag r.closed ++ [endByte r.endReason, causeByte r.abortCause] ++ b1 (sourceCode r.sourceAtEnd) ++
  resultFlagBytes r.flags ++ b2 (resultMarks r) ++ i4 r.rm ++ i4 r.fmax ++ i4 r.agt ++ b4 r.timeAtEnd ++
  u4 (match r.e with | some v => v | none => 0) ++
  orZero (r.reH.map (fun p => p.stress)) ++ orZero (r.reH.map (fun p => p.strain)) ++ orZero r.reL ++ orZero r.ae ++
  orZero (r.rp.map (fun p => p.stress)) ++ orZero (r.rp.map (fun p => p.strain)) ++ orZero r.ag ++ orZero r.af ++
  orZero (r.brk.map (fun b => b.strain)) ++ orZero (r.brk.map (fun b => b.force)) ++ orZero r.removal

/-- The request READ_RESULT (09 R184). -/
def reqReadResult (s : State) : Answer :=
  match s.result.record with
  | some r =>
    if s.seq.state == .idle || s.seq.state == .armed then refuse .wrongState s else accept s (resultBytes r)
  | none => refuse .wrongState s

/-! ## IDENTIFY (11 R204) -/

/-- The request IDENTIFY (11 R204). The part code is sent in 2 bytes: the model's choice (Log 19). -/
def reqIdentify (s : State) : Answer :=
  accept s (b2 Config.partCode ++ [Config.designRevision] ++
    (if s.store.ready then s.store.cal.serial else List.replicate 8 0) ++
    bFlag s.store.ready ++ bFlag s.store.calValid ++ bFlag s.store.calUnsaved ++ bFlag s.store.save.isSome)

/-! ## STATUS (11 R205) -/

/-- Group 0 (11 R205). Both live load flags precede both latched ones: the model's choice (Log 19). -/
def statusGroup0 (s : State) : List Byte :=
  bFlag s.store.ready ++ [seqCode s.seq.state] ++ bSet s.seq.held.members ++ [motionCode s.motion.state] ++
  bSet s.prot.latched.members ++ bFlag s.force.liveOver ++ bFlag s.force.liveNear ++ bFlag s.force.latchOver ++
  bFlag s.force.latchNear ++ [lockCode s.links.slr0.lock, lockCode s.links.slr1.lock, lockCode s.links.slr2.lock] ++
  bFlag s.store.calValid ++ bFlag s.store.calUnsaved ++ bFlag s.ext.removeRequest ++
  b4 s.router.notices.length ++ b4 s.router.lost ++ b4 s.log.ring.length ++ [logStateCode s.log.state]

/-- Group 1. -/
def statusGroup1 (s : State) : List Byte :=
  i4 s.force.f ++ i4 s.force.tare ++ bFlag s.force.tareOp.isSome ++ i4 s.force.fmax ++ i4 s.force.strainAtFmax ++
  i4 s.strain.stress ++ i4 s.strain.epsC ++ i4 s.strain.active ++ b1 (sourceCode s.strain.source) ++
  i4 s.strain.stitch ++ i4 s.strain.p0 ++ i4 s.position ++ i4 s.motion.encCount

/-- The Motion Controller's items (04 R87). -/
def motionStatus (s : State) : List Byte :=
  let m := s.motion
  [motionCode m.state] ++ bFlag m.driveEn ++ i4 m.lastDemand ++ u4 m.ceiling ++ bFlag m.blind ++ bFlag m.dwell ++
  b4 m.zeroRun ++ i4 s.position ++ i4 m.encCount ++ b4 m.queue.length ++ bOption 10 segmentBytes m.queue.head? ++
  bOption 5 jogBytes m.jog ++ u4 (s.msLeft m.keepalive) ++ travelBytes m ++ bOption 1 (fun d => [destCode d]) m.dest

/-- The gain set in use with its gains (05 R106). -/
def gainsInUse (l : RateLoop) : List Byte :=
  bOption 9 (fun m => b1 (match m with | .positionRate => 0 | .stressRate => 1 | .strainRate => 2 | .holdPosition => 0)
    ++ gainBytes (l.gainsOf m)) l.mode

/-- The Rate Loop's items (05 R106). -/
def loopStatus (l : RateLoop) : List Byte :=
  [match l.mode with | some m => modeCode m | none => 4] ++ i4 l.rate ++ gainsInUse l ++ i4 l.acc ++ i4 l.target ++
  i4 l.meas ++ i4 l.err ++ i4 l.pTerm ++ i4 l.integ ++ i4 l.raw ++ i4 l.prev

/-- The Protection Unit's items (06 R123). -/
def protStatus (s : State) : List Byte :=
  bSet s.prot.latched.members ++ bFlag s.prot.overload ++ bFlag s.estopClosed ++ bFlag s.limitPos ++
  bFlag s.limitNeg ++ bFlag s.driveFaultIn ++ bFlag s.gripsClosed ++ bFlag s.prot.blanking.isSome ++
  bFlag s.prot.episode.isSome ++ b4 s.retryCount ++ u4 (s.msLeft s.prot.offTime) ++ b2 s.prot.gripCount ++
  bFlag s.gripsSettled

/-- One extensometer's items (03 R40). -/
def extStatus (e : Ext) : List Byte :=
  [extStateCode e.state] ++ bFlag e.zeroed ++ i4 e.zero ++ i4 e.raw ++ i4 e.elong ++ i4 e.strain ++ bFlag e.op.isSome

/-- The removal timer: its state and its expiry in test time. -/
def timerBytes : RemovalTimer → List Byte
  | .running t => [0] ++ u4 t
  | .stopped => [1, 0, 0, 0, 0]
  | .expired => [2, 0, 0, 0, 0]

/-- The removal record's items (03 R46). -/
def removalStatus (r : RemovalRecord) : List Byte :=
  [policyCode r.policy, condCode r.cond] ++ bOption 1 (fun m => [removalModeCode m]) r.mode ++
  bOption 4 b4 r.requestTime ++ b4 r.edges ++ timerBytes r.timer ++ bOption 4 i4 r.strainAt ++
  bOption 1 (fun k => [kindCode k]) r.kind

/-- The Sequencer's items (07 R149). The end reason and the abort cause are one byte each, 0 where absent and with no
present mark, in the form that 11 R203 gives them in READ_RESULT: the model's choice (Log 19). -/
def seqStatus (s : State) : List Byte :=
  [seqCode s.seq.state] ++ b1 s.seq.phase.val ++ u4 s.phaseMs ++ bSet s.seq.held.members ++ bFlag s.seq.pendingExit ++
  bOption 1 b1 s.seq.armedTrigger ++ [endByte s.seq.endReason, causeByte s.seq.abortCause]

/-- The Result Engine's items (09 R185). -/
def resultStatus (r : ResultEngine) : List Byte :=
  [fitCode r.fit] ++ b4 r.n ++ [proofCode r.proof, yieldCode r.yield] ++
  bOption 8 (fun p => i4 p.stress ++ i4 p.strain) r.smax ++ bFlag r.rmDecided ++ bFlag r.fracArmed

/-- A monitor's state, and its firing value where it is FIRED (08 R152). The spec leaves open how STATUS group 4 arranges
the two and what is sent of a monitor that is not FIRED: state and 4-byte value together, monitor by monitor, with the
value 0 and no present mark for one that is not FIRED, is the model's choice (Log 19). -/
def monitorStatus (m : Monitor) : List Byte :=
  [monitorStateCode m.state] ++ i4 (if m.state == .fired then m.value else 0)

/-- Group 5 (11 R205). The three levels of an input stand together, raw, filtered, asserted, input by input: the model's
choice (Log 19). -/
def statusGroup5 (s : State) : List Byte :=
  s.ins.toList.flatMap (fun i => bFlag i.raw ++ bFlag i.filtered ++ bFlag i.asserted) ++
  indices.flatMap (fun k => bFlag (s.outLevel k)) ++ bFlag s.log.stream ++
  bOption 1 b1 (match s.log.state with | .waiting n => some n | .stopped => none | .running => none)

/-- The items of a group (11 R205). R205 lists REMOVE_REQUEST in group 0; that group 3 ends with it once more, as one of
the extensometer items of 03 R40, is the model's choice (Log 19). -/
def statusGroup (g : Nat) (s : State) : List Byte :=
  if g = 0 then statusGroup0 s
  else if g = 1 then statusGroup1 s
  else if g = 2 then motionStatus s ++ loopStatus s.loop ++ protStatus s
  else if g = 3 then
    extStatus s.ext.primary ++ extStatus s.ext.secondary ++ removalStatus s.ext.removal ++ bFlag s.ext.removeRequest
  else if g = 4 then seqStatus s ++ resultStatus s.result ++ s.mon.bank.toList.flatMap monitorStatus
  else statusGroup5 s

/-- Each latched load flag whose live flag is clear is cleared (01 R16). -/
def clearLatched (s : State) : State :=
  { s with force := { s.force with
      latchOver := s.force.latchOver && s.force.liveOver, latchNear := s.force.latchNear && s.force.liveNear } }

/-- The request STATUS (11 R205): the reply is formed first. -/
def reqStatus (p : List Byte) (s : State) : Answer :=
  let g := fieldU p 0 1
  checked [(decide (g ≤ 5), .badValue)] s
    (accept (if (fieldU p 1 1).testBit 0 then clearLatched s else s) (statusGroup g s))

/-! ## STATS (11 R206, 01 R9) -/

/-- One link's items (01 R9). -/
def linkStats (r : Receiver) : List Byte :=
  [lockCode r.lock] ++ b4 r.goodFrames ++ b4 r.badFrames ++ b4 r.missedFrames ++ b4 r.errCount ++ b2 r.errThreshold

/-- The items of STATS (11 R206). -/
def statsBytes (s : State) : List Byte :=
  linkStats s.links.slr0 ++ linkStats s.links.slr1 ++ linkStats s.links.slr2 ++ b4 s.motion.encErrors ++
  b4 s.host.goodFrames ++ b4 s.host.crcErrors ++ b4 s.host.framingErrors ++ b4 s.host.overruns ++ b4 s.host.framesSent

/-- A link's new threshold, which also clears the threshold-reported mark (01 R8, R9). -/
def setThreshold (t : Option Nat) (r : Receiver) : Receiver :=
  match t with
  | some n => { r with errThreshold := n, reported := false }
  | none => r

/-- A link's counters and error count are cleared with its mark (01 R9). -/
def clearLinkStats (r : Receiver) : Receiver :=
  { r with goodFrames := 0, badFrames := 0, missedFrames := 0, errCount := 0, reported := false }

/-- The threshold field of a payload: a present mark and 2 bytes. `none` where the mark or the value is refused
(01 R9). -/
def thresholdAt (p : List Byte) (off : Nat) : Option (Option Nat) :=
  match flagOf (fieldU p off 1) with
  | some true => if fieldU p (off + 1) 2 = 0 then none else some (some (fieldU p (off + 1) 2))
  | some false => some none
  | none => none

/-- New thresholds for the three links (01 R9). -/
def setThresholds (a b c : Option Nat) (s : State) : State :=
  { s with links := { slr0 := setThreshold a s.links.slr0, slr1 := setThreshold b s.links.slr1,
                      slr2 := setThreshold c s.links.slr2 } }

/-- The clear option of STATS (11 R206). -/
def clearStats (s : State) : State :=
  { s with
    links := { slr0 := clearLinkStats s.links.slr0, slr1 := clearLinkStats s.links.slr1,
               slr2 := clearLinkStats s.links.slr2 }
    motion := { s.motion with encErrors := 0 }
    host := { s.host with goodFrames := 0, crcErrors := 0, framingErrors := 0, overruns := 0, framesSent := 0 } }

/-- The reply of STATS, and the clear after it (11 R206). -/
def statsReply (clear : Bool) (s : State) : Answer := accept (if clear then clearStats s else s) (statsBytes s)

/-- The request STATS (11 R206, 01 R9). R206 names bit 0 of the options byte only; that bits 1 to 7 are ignored, as R205
has it for STATUS, is the model's choice (Log 18). -/
def reqStats (p : List Byte) (s : State) : Answer :=
  let clear := (fieldU p 0 1).testBit 0
  if p.length = 1 then statsReply clear s
  else match thresholdAt p 1, thresholdAt p 4, thresholdAt p 7 with
    | some a, some b, some c => statsReply clear (setThresholds a b c s)
    | _, _, _ => refuse .badValue s

end Sys2Proof.Machine
end

