-- ==== Sys2Proof/Machine/HostRx.lean ====
section
/-! DEFINITION. The Host Link Interface (11 R199 to R202, R210): the dispatch of a good request, its reply, the
receiver's characters, and the frames on HTXD as bytes. -/

namespace Sys2Proof.Machine

/-! ## Resets asked for (11 R210) -/

/-- The requests RESET and RESTART are accepted and wait for their own acceptance to leave HTXD (11 R210). -/
def reqResetKind (k : ResetKind) (s : State) : Answer :=
  accept { s with host := { s.host with resetPending := some k } } []

/-! ## Dispatch (11 R201) -/

/-- The owning block's part of a request by its kind (11, request catalogue). -/
def handlerOf (kind : Nat) (p : List Byte) (s : State) : Answer :=
  if kind = 0x01 then reqIdentify s
  else if kind = 0x02 then reqStatus p s
  else if kind = 0x03 then reqStats p s
  else if kind = 0x08 then reqGetCal s
  else if kind = 0x09 then reqSetCal p s
  else if kind = 0x0A then reqSaveCal s
  else if kind = 0x10 then reqSetSpecimen p s
  else if kind = 0x11 then reqSetMethod p s
  else if kind = 0x12 then reqSetPhase p s
  else if kind = 0x13 then reqSetMonitor p s
  else if kind = 0x14 then reqSetRoute p s
  else if kind = 0x15 then reqSetOutput p s
  else if kind = 0x16 then reqSetLoop p s
  else if kind = 0x17 then reqSetTravel p s
  else if kind = 0x18 then reqTare s
  else if kind = 0x19 then reqZeroExt p s
  else if kind = 0x1A then reqZeroPos s
  else if kind = 0x20 then reqEnable s
  else if kind = 0x21 then reqDisable s
  else if kind = 0x22 then reqMove p s
  else if kind = 0x23 then reqJog p s
  else if kind = 0x24 then reqStop s
  else if kind = 0x25 then reqClearFault s
  else if kind = 0x28 then reqTrigger p s
  else if kind = 0x29 then reqArm p s
  else if kind = 0x2A then reqHold s
  else if kind = 0x2B then reqResume s
  else if kind = 0x2C then reqEnd s
  else if kind = 0x2D then reqAbort s
  else if kind = 0x2E then reqClearTest s
  else if kind = 0x2F then reqExtConfirm s
  else if kind = 0x30 then reqReadResult s
  else if kind = 0x31 then reqLogStart p s
  else if kind = 0x32 then reqLogStop s
  else if kind = 0x33 then reqReadLog p s
  else if kind = 0x34 then reqStream p s
  else if kind = 0x35 then reqSetLog p s
  else if kind = 0x38 then reqSetTime p s
  else if kind = 0x39 then reqAdjustTime p s
  else if kind = 0x3A then reqTrimTime p s
  else if kind = 0x3B then reqReadTime s
  else if kind = 0x3E then reqResetKind .reset s
  else if kind = 0x3F then reqResetKind .restart s
  else refuse .unknownKind s

/-- The checks made before a request goes to its owner (11 R201): KIND, LEN, INIT. -/
def answerRequest (kind : Nat) (payload : List Byte) (handle : List Byte → State → Answer) (s : State) : Answer :=
  match lengthsOf kind with
  | none => refuse .unknownKind s
  | some ls =>
    if !ls.contains payload.length then refuse .badLength s
    else if !s.store.ready && kind != 0x01 then refuse .busy s
    else handle payload s

/-- The reply of an answer: the acceptance carries the request's kind + 0x80, a refusal is 0xFE with the kind and the
reason's code (11 R199, R201). -/
def replyOf (kind : Nat) (tag : Byte) : Except Reason (List Byte) → Reply
  | .ok payload => { kind := BitVec.ofNat 8 (kind + 128), tag := tag, payload := payload }
  | .error r => { kind := 0xFE, tag := tag, payload := [BitVec.ofNat 8 kind, BitVec.ofNat 8 (reasonCode r)] }

/-- A reply joins the tail of the pending-reply queue (11 R201). -/
def pushReply (r : Reply) (s : State) : State := { s with host := { s.host with replies := s.host.replies ++ [r] } }

/-- A good request frame is taken whole (11 R201): counted, answered, its reply formed before any event of it is
routed, then the end of the arrival. -/
def goodRequest (kind : Nat) (tag : Byte) (payload : List Byte) (handle : List Byte → State → Answer) (s : State) :
    State :=
  let a := answerRequest kind payload handle
    { s with host := { s.host with rx := .hunt, goodFrames := satU32 (s.host.goodFrames + 1) } }
  settle (pushReply (replyOf kind tag a.2) a.1)

/-! ## The receiver (11 R200) -/

/-- A frame in progress is abandoned as a framing error (11 R200). -/
def framingError (s : State) : State :=
  { s with host := { s.host with rx := .hunt, framingErrors := satU32 (s.host.framingErrors + 1) } }

/-- The last CRC byte of a frame is stored (11 R200). -/
def endFrame (len kind tag : Byte) (got : List Byte) (s : State) : State :=
  let payload := got.take len.toNat
  if natOf (got.drop len.toNat) = crc16 (len :: kind :: tag :: payload) then
    goodRequest kind.toNat tag payload (handlerOf kind.toNat) s
  else { s with host := { s.host with rx := .hunt, crcErrors := satU32 (s.host.crcErrors + 1) } }

/-- A character in HEADER (11 R200). -/
def headerChar (got : List Byte) (b : Byte) (s : State) : State :=
  match got with
  | [] =>
    if Config.maxPayload < b.toNat then framingError s else { s with host := { s.host with rx := .header [b] } }
  | [len] => { s with host := { s.host with rx := .header [len, b] } }
  | len :: kind :: _ => { s with host := { s.host with rx := .body len kind b [] } }

/-- A character in BODY (11 R200). -/
def bodyChar (len kind tag : Byte) (got : List Byte) (b : Byte) (s : State) : State :=
  if got.length + 1 < len.toNat + 2 then { s with host := { s.host with rx := .body len kind tag (got ++ [b]) } }
  else endFrame len kind tag (got ++ [b]) s

/-- A character in HUNT (11 R200). -/
def huntChar (c : SerialChar) (s : State) : State :=
  if c.byte != 0xD5 || c.stopErr then s
  else if s.host.replies.length < Config.replyCapacity then { s with host := { s.host with rx := .header [] } }
  else { s with host := { s.host with overruns := satU32 (s.host.overruns + 1) } }

/-- One character on HRXD (11 R200); from the acceptance of a reset on every character is discarded (R210). -/
def hostChar (s : State) (c : SerialChar) : State :=
  if s.host.resetPending.isSome then s
  else match s.host.rx with
    | .hunt => huntChar c s
    | .header got => if c.stopErr then framingError s else headerChar got c.byte s
    | .body len kind tag got => if c.stopErr then framingError s else bodyChar len kind tag got c.byte s

/-! ## Frames as bytes (11 R199) -/

/-- The bytes of a frame: SOF, LEN, KIND, TAG, payload, CRC (11 R199). -/
def frameBytes (kind tag : Byte) (payload : List Byte) : List Byte :=
  let body := BitVec.ofNat 8 payload.length :: kind :: tag :: payload
  0xD5 :: body ++ b2 (crc16 body)

/-- The frame that HTXD is sending, as bytes; none when it is idle (11 R199, R202). -/
def State.txFrame (s : State) : Option (List Byte) :=
  match s.host.tx with
  | .idle => none
  | .reply => s.host.replies.head?.map (fun r => frameBytes r.kind r.tag r.payload)
  | .notice e => some (frameBytes 0xE0 0 (eventBytes e))
  | .batch rs => some (frameBytes 0xE1 0 (rs.flatMap logRecordBytes))

/-- Characters without a stop-bit error. -/
def cleanChars (bs : List Byte) : List SerialChar := bs.map (fun b => { byte := b, stopErr := false })

/-- The receiver takes a whole good frame as one arrival: in HUNT, with room for its reply, no reset waiting. -/
def State.takesFrame (s : State) (payload : List Byte) : Bool :=
  s.host.rx == .hunt && decide (s.host.replies.length < Config.replyCapacity) && s.host.resetPending.isNone &&
    decide (payload.length ≤ Config.maxPayload)

/-- A request arrives (11 R200, R201). Where the receiver cannot take it as a whole frame, it takes the frame's
characters one by one, as they come (Log 35). -/
def hostRequest (kind : Nat) (tag : Byte) (payload : List Byte) (handle : List Byte → State → Answer) (s : State) :
    State :=
  if s.takesFrame payload then goodRequest kind tag payload handle s
  else (cleanChars (frameBytes (BitVec.ofNat 8 kind) tag payload)).foldl hostChar s

/-! ## Commands of the receiver and the transmitter (11 R200, R202) -/

/-- The command HOST_CHAR_GAP_TIMEOUT (11 R200). -/
def execHostCharGapTimeout (s : State) : Outcome :=
  .next (match s.host.rx with | .hunt => s | .header _ => framingError s | .body _ _ _ _ => framingError s)

/-- The command HOST_SOF_OVERRUN: a 0xD5 arrives (11 R200). -/
def execHostSofOverrun (s : State) : Outcome := .next (hostChar s { byte := 0xD5, stopErr := false })

/-- The command HOST_FRAME_CRC_ERROR: the characters of a frame that fails its CRC arrive (11 R200). -/
def execHostFrameCrcError (chars : List SerialChar) (s : State) : Outcome := .next (chars.foldl hostChar s)

/-- The command HOST_FRAMING_ERROR: the characters of a frame that is abandoned arrive (11 R200). -/
def execHostFramingError (chars : List SerialChar) (s : State) : Outcome := .next (chars.foldl hostChar s)

/-- The command HOST_UNKNOWN_REQUEST: a good frame of a kind outside the catalogue (11 R201). -/
def execHostUnknownRequest (kind tag : Byte) (payload : List Byte) (s : State) : Outcome :=
  .next (hostRequest kind.toNat tag payload (handlerOf kind.toNat) s)

/-- The frame on HTXD has left: counted, and a reply leaves its queue (11 R202, R206; Log 20). -/
def frameLeft (s : State) : State :=
  let h := { s.host with tx := .idle, framesSent := satU32 (s.host.framesSent + 1) }
  match s.host.tx with
  | .idle => s
  | .reply => { s with host := { h with replies := s.host.replies.tail } }
  | .notice _ => { s with host := h }
  | .batch _ => { s with host := h }

/-- The command TRANSMIT_FRAME_END: the last byte of a frame leaves HTXD (11 R202). -/
def execTransmitFrameEnd (s : State) : Outcome := .next (settle (frameLeft s))

end Sys2Proof.Machine
end

