-- ==== Sys2Proof/Machine/Resets.lean ====
section
/-! DEFINITION. The three resets (11 R210): each block's values after them, gathered from the blocks' own rules. -/

namespace Sys2Proof.Machine

/-! ## Power-on and RESET -/

/-- The stored block after a reset (11 R209): a save in flight leaves the new block if its write had completed, which
is a free value, else a block whose CRC fails (Log 16). -/
def State.blockAfterReset (s : State) : NvBlock :=
  match s.store.save with
  | none => s.store.nv
  | some block => if Config.saveWriteCompleted s.free then .bytes block else .torn s.free

/-- Every block takes its values after power-on and RESET, and INIT is entered (11 R207, R210). The pins keep their
levels; the queue of commands is not the machine's. -/
def resetAll (s : State) : State :=
  { State.reset with
    pending := s.pending
    motion := { Motion.init with encA := s.motion.encA, encB := s.motion.encB }
    ins := s.ins.map (fun i => { Input.init with raw := i.raw })
    store := CalStore.init s.blockAfterReset
    free := if s.store.save.isSome then s.free + 1 else s.free }

/-- The command POWER_ON (11 R210). -/
def execPowerOn (s : State) : Outcome := .next (resetAll s)

/-! ## RESTART -/

/-- The Force Channel after RESTART (01 R21). -/
def Force.restarted (f : Force) : Force := { f with tareOp := none, fmax := 0, strainAtFmax := 0, hasPoint := false }

/-- The Strain Channel after RESTART (02 R38). -/
def Strain.restarted (t : Strain) : Strain := { t with source := .crosshead, stitch := 0, active := t.epsC }

/-- An extensometer after RESTART (03 R63). -/
def Ext.restarted (locked : Bool) (e : Ext) : Ext := { e with op := none, state := derivedExtState locked e.zeroed }

/-- The Motion Controller after RESTART (04 R88), before the ceiling is formed again. R88 says nothing of the characters
last sent on DLTX, nor of the reference X: that the model keeps both as they stood, the characters until the next word and
X until a head begins, is its choice (Log 14). -/
def Motion.restarted (m : Motion) : Motion :=
  { m with state := .off, driveEn := false, lastDemand := 0, queue := [], jog := none, keepalive := none,
           dwell := false, dest := none }

/-- The Rate Loop after RESTART (05 R107). -/
def RateLoop.restarted (l : RateLoop) : RateLoop :=
  { RateLoop.init with gPos := l.gPos, gStress := l.gStress, gStrain := l.gStrain }

/-- The Protection Unit after RESTART (06 R124). -/
def Protection.restarted (p : Protection) : Protection := { p with blanking := none, episode := none, offTime := none }

/-- The Sequencer after RESTART (07 R150). -/
def Sequencer.restarted (q : Sequencer) : Sequencer := { Sequencer.init with method := q.method, phases := q.phases }

/-- A monitor after RESTART (08 R155). -/
def Monitor.restarted (m : Monitor) : Monitor :=
  { m with state := if m.enable then .armed else .disabled, value := 0 }

/-- The Sample Log after RESTART (10 R194). -/
def SampleLog.restarted (l : SampleLog) : SampleLog :=
  { SampleLog.init with interval := l.interval, stream := l.stream }

/-- The Host Link Interface after RESTART (11 R210). -/
def HostLink.restarted (h : HostLink) : HostLink :=
  { h with rx := .hunt, replies := [], tx := .idle, resetPending := none }

/-- Every block takes its values after RESTART (11 R210). The receivers, the inputs and the Calibration Store are not
touched; no event is raised. -/
def restartAll (s : State) : State :=
  reformCeiling { s with
    force := s.force.restarted
    strain := s.strain.restarted
    ext := { Handler.init with
      primary := s.ext.primary.restarted (s.extLocked .primary)
      secondary := s.ext.secondary.restarted (s.extLocked .secondary) }
    motion := s.motion.restarted
    loop := s.loop.restarted
    prot := s.prot.restarted
    seq := s.seq.restarted
    mon := { bank := s.mon.bank.map Monitor.restarted, fired := [] }
    router := { Router.init with routes := s.router.routes }
    outs := s.outs.map (fun o => { o with pulse := none })
    result := ResultEngine.init
    log := s.log.restarted
    time := { s.time with testTime := 0, testRunning := false, msSeen := 0 }
    host := s.host.restarted }

/-! ## The moment a reset asked for takes effect (11 R210) -/

/-- The acceptance of a reset has left HTXD, or is the one frame left and leaves it now (11 R210; Log 21). -/
def State.resetDue (s : State) (k : ResetKind) : Bool :=
  s.host.resetPending == some k &&
    (s.host.replies.isEmpty || (s.host.tx == .reply && s.host.replies.length == 1))

/-- The command RESET_TAKES_EFFECT (11 R210). Where no RESET waits on its acceptance, none takes effect (Log 21). -/
def execResetTakesEffect (s : State) : Outcome := .next (if s.resetDue .reset then resetAll (frameLeft s) else s)

/-- The command RESTART_TAKES_EFFECT (11 R210). Where no RESTART waits on its acceptance, none takes effect (Log 21). -/
def execRestartTakesEffect (s : State) : Outcome :=
  .next (if s.resetDue .restart then restartAll (frameLeft s) else s)

end Sys2Proof.Machine
end

