-- ==== Sys2Proof/Machine/Requests.lean ====
section
/-! DEFINITION. The requests of the host link as commands (11, request catalogue): each arrives as a good frame of its
kind and is answered by its owning block. -/

namespace Sys2Proof.Machine

/-- The command IDENTIFY (R204). -/
def execIdentify (tag : Byte) (payload : List Byte) (s : State) : Outcome :=
  .next (hostRequest 0x01 tag payload (fun _ => reqIdentify) s)

/-- The command STATUS (R205). -/
def execStatus (tag : Byte) (payload : List Byte) (s : State) : Outcome :=
  .next (hostRequest 0x02 tag payload reqStatus s)

/-- The command STATS (R206). -/
def execStats (tag : Byte) (payload : List Byte) (s : State) : Outcome :=
  .next (hostRequest 0x03 tag payload reqStats s)

/-- The command GET_CAL (R208). -/
def execGetCal (tag : Byte) (payload : List Byte) (s : State) : Outcome :=
  .next (hostRequest 0x08 tag payload (fun _ => reqGetCal) s)

/-- The command SET_CAL (R208). -/
def execSetCal (tag : Byte) (payload : List Byte) (s : State) : Outcome :=
  .next (hostRequest 0x09 tag payload reqSetCal s)

/-- The command SAVE_CAL (R209). -/
def execSaveCal (tag : Byte) (payload : List Byte) (s : State) : Outcome :=
  .next (hostRequest 0x0A tag payload (fun _ => reqSaveCal) s)

/-- The command SET_SPECIMEN (R22). -/
def execSetSpecimen (tag : Byte) (payload : List Byte) (s : State) : Outcome :=
  .next (hostRequest 0x10 tag payload reqSetSpecimen s)

/-- The command SET_METHOD (R125). -/
def execSetMethod (tag : Byte) (payload : List Byte) (s : State) : Outcome :=
  .next (hostRequest 0x11 tag payload reqSetMethod s)

/-- The command SET_PHASE (R126). -/
def execSetPhase (tag : Byte) (payload : List Byte) (s : State) : Outcome :=
  .next (hostRequest 0x12 tag payload reqSetPhase s)

/-- The command SET_MONITOR (R151). -/
def execSetMonitor (tag : Byte) (payload : List Byte) (s : State) : Outcome :=
  .next (hostRequest 0x13 tag payload reqSetMonitor s)

/-- The command SET_ROUTE (R157). -/
def execSetRoute (tag : Byte) (payload : List Byte) (s : State) : Outcome :=
  .next (hostRequest 0x14 tag payload reqSetRoute s)

/-- The command SET_OUTPUT (R164). -/
def execSetOutput (tag : Byte) (payload : List Byte) (s : State) : Outcome :=
  .next (hostRequest 0x15 tag payload reqSetOutput s)

/-- The command SET_LOOP (R91). -/
def execSetLoop (tag : Byte) (payload : List Byte) (s : State) : Outcome :=
  .next (hostRequest 0x16 tag payload reqSetLoop s)

/-- The command SET_TRAVEL (R82). -/
def execSetTravel (tag : Byte) (payload : List Byte) (s : State) : Outcome :=
  .next (hostRequest 0x17 tag payload reqSetTravel s)

/-- The command TARE (R17). -/
def execTare (tag : Byte) (payload : List Byte) (s : State) : Outcome :=
  .next (hostRequest 0x18 tag payload (fun _ => reqTare) s)

/-- The command ZERO_EXT (R43). -/
def execZeroExt (tag : Byte) (payload : List Byte) (s : State) : Outcome :=
  .next (hostRequest 0x19 tag payload reqZeroExt s)

/-- The command ZERO_POS (R27). -/
def execZeroPos (tag : Byte) (payload : List Byte) (s : State) : Outcome :=
  .next (hostRequest 0x1A tag payload (fun _ => reqZeroPos) s)

/-- The command ENABLE (R66). -/
def execEnable (tag : Byte) (payload : List Byte) (s : State) : Outcome :=
  .next (hostRequest 0x20 tag payload (fun _ => reqEnable) s)

/-- The command DISABLE (R67). -/
def execDisable (tag : Byte) (payload : List Byte) (s : State) : Outcome :=
  .next (hostRequest 0x21 tag payload (fun _ => reqDisable) s)

/-- The command MOVE (R74). -/
def execMove (tag : Byte) (payload : List Byte) (s : State) : Outcome :=
  .next (hostRequest 0x22 tag payload reqMove s)

/-- The command JOG (R77). -/
def execJog (tag : Byte) (payload : List Byte) (s : State) : Outcome :=
  .next (hostRequest 0x23 tag payload reqJog s)

/-- The command STOP (R79). -/
def execStop (tag : Byte) (payload : List Byte) (s : State) : Outcome :=
  .next (hostRequest 0x24 tag payload (fun _ => reqStop) s)

/-- The command CLEAR_FAULT (R109). -/
def execClearFault (tag : Byte) (payload : List Byte) (s : State) : Outcome :=
  .next (hostRequest 0x25 tag payload (fun _ => reqClearFault) s)

/-- The command TRIGGER (R163). -/
def execTrigger (tag : Byte) (payload : List Byte) (s : State) : Outcome :=
  .next (hostRequest 0x28 tag payload reqTrigger s)

/-- The command ARM (R128). -/
def execArm (tag : Byte) (payload : List Byte) (s : State) : Outcome :=
  .next (hostRequest 0x29 tag payload reqArm s)

/-- The command HOLD (R137). -/
def execHold (tag : Byte) (payload : List Byte) (s : State) : Outcome :=
  .next (hostRequest 0x2A tag payload (fun _ => reqHold) s)

/-- The command RESUME (R138). -/
def execResume (tag : Byte) (payload : List Byte) (s : State) : Outcome :=
  .next (hostRequest 0x2B tag payload (fun _ => reqResume) s)

/-- The command END (R143). -/
def execEndTest (tag : Byte) (payload : List Byte) (s : State) : Outcome :=
  .next (hostRequest 0x2C tag payload (fun _ => reqEnd) s)

/-- The command ABORT (R145). -/
def execAbort (tag : Byte) (payload : List Byte) (s : State) : Outcome :=
  .next (hostRequest 0x2D tag payload (fun _ => reqAbort) s)

/-- The command CLEAR_TEST (R147). -/
def execClearTest (tag : Byte) (payload : List Byte) (s : State) : Outcome :=
  .next (hostRequest 0x2E tag payload (fun _ => reqClearTest) s)

/-- The command EXT_CONFIRM (R53). -/
def execExtConfirm (tag : Byte) (payload : List Byte) (s : State) : Outcome :=
  .next (hostRequest 0x2F tag payload (fun _ => reqExtConfirm) s)

/-- The command READ_RESULT (R184). -/
def execReadResult (tag : Byte) (payload : List Byte) (s : State) : Outcome :=
  .next (hostRequest 0x30 tag payload (fun _ => reqReadResult) s)

/-- The command LOG_START (R188). -/
def execLogStart (tag : Byte) (payload : List Byte) (s : State) : Outcome :=
  .next (hostRequest 0x31 tag payload reqLogStart s)

/-- The command LOG_STOP (R188). -/
def execLogStop (tag : Byte) (payload : List Byte) (s : State) : Outcome :=
  .next (hostRequest 0x32 tag payload (fun _ => reqLogStop) s)

/-- The command READ_LOG (R193). -/
def execReadLog (tag : Byte) (payload : List Byte) (s : State) : Outcome :=
  .next (hostRequest 0x33 tag payload reqReadLog s)

/-- The command STREAM (R193). -/
def execStream (tag : Byte) (payload : List Byte) (s : State) : Outcome :=
  .next (hostRequest 0x34 tag payload reqStream s)

/-- The command SET_LOG (R190). -/
def execSetLog (tag : Byte) (payload : List Byte) (s : State) : Outcome :=
  .next (hostRequest 0x35 tag payload reqSetLog s)

/-- The command SET_TIME (R197). -/
def execSetTime (tag : Byte) (payload : List Byte) (s : State) : Outcome :=
  .next (hostRequest 0x38 tag payload reqSetTime s)

/-- The command ADJUST_TIME (R197). -/
def execAdjustTime (tag : Byte) (payload : List Byte) (s : State) : Outcome :=
  .next (hostRequest 0x39 tag payload reqAdjustTime s)

/-- The command TRIM_TIME (R196). -/
def execTrimTime (tag : Byte) (payload : List Byte) (s : State) : Outcome :=
  .next (hostRequest 0x3A tag payload reqTrimTime s)

/-- The command READ_TIME (R197). -/
def execReadTime (tag : Byte) (payload : List Byte) (s : State) : Outcome :=
  .next (hostRequest 0x3B tag payload (fun _ => reqReadTime) s)

/-- The command RESET (R210). -/
def execReset (tag : Byte) (payload : List Byte) (s : State) : Outcome :=
  .next (hostRequest 0x3E tag payload (fun _ => reqResetKind .reset) s)

/-- The command RESTART (R210). -/
def execRestart (tag : Byte) (payload : List Byte) (s : State) : Outcome :=
  .next (hostRequest 0x3F tag payload (fun _ => reqResetKind .restart) s)

end Sys2Proof.Machine
end

