-- ==== Sys2Proof/Machine/Dispatch.lean ====
section
/-! DEFINITION. Which meaning each command has: one arm per constructor. -/

namespace Sys2Proof.Machine

def exec (i : Instr) (s : State) : Host.Outcome State Fault Refusal :=
  match i with
  | .powerOn => Sys2Proof.Machine.execPowerOn s
  | .calLoadEnd => Sys2Proof.Machine.execCalLoadEnd s
  | .sensorFrame n chars => Sys2Proof.Machine.execSensorFrame n chars s
  | .sensorCharGapTimeout n => Sys2Proof.Machine.execSensorCharGapTimeout n s
  | .silenceTimerExpiry n => Sys2Proof.Machine.execSilenceTimerExpiry n s
  | .removalTimerExpiry => Sys2Proof.Machine.execRemovalTimerExpiry s
  | .encoderTransition a b => Sys2Proof.Machine.execEncoderTransition a b s
  | .controlPeriod => Sys2Proof.Machine.execControlPeriod s
  | .jogKeepaliveExpiry => Sys2Proof.Machine.execJogKeepaliveExpiry s
  | .blankingTimerExpiry => Sys2Proof.Machine.execBlankingTimerExpiry s
  | .offTimeExpiry => Sys2Proof.Machine.execOffTimeExpiry s
  | .gripSettleTick => Sys2Proof.Machine.execGripSettleTick s
  | .inputRawChange k level => Sys2Proof.Machine.execInputRawChange k level s
  | .inputFilterExpiry k => Sys2Proof.Machine.execInputFilterExpiry k s
  | .phaseTimerExpiry => Sys2Proof.Machine.execPhaseTimerExpiry s
  | .testTimeMsTick => Sys2Proof.Machine.execTestTimeMsTick s
  | .pulseTimerExpiry k => Sys2Proof.Machine.execPulseTimerExpiry k s
  | .logIntervalExpiry => Sys2Proof.Machine.execLogIntervalExpiry s
  | .millTimeStep => Sys2Proof.Machine.execMillTimeStep s
  | .hostCharGapTimeout => Sys2Proof.Machine.execHostCharGapTimeout s
  | .hostSofOverrun => Sys2Proof.Machine.execHostSofOverrun s
  | .hostFrameCrcError chars => Sys2Proof.Machine.execHostFrameCrcError chars s
  | .hostUnknownRequest kind tag payload => Sys2Proof.Machine.execHostUnknownRequest kind tag payload s
  | .transmitFrameEnd => Sys2Proof.Machine.execTransmitFrameEnd s
  | .identify tag payload => Sys2Proof.Machine.execIdentify tag payload s
  | .status tag payload => Sys2Proof.Machine.execStatus tag payload s
  | .stats tag payload => Sys2Proof.Machine.execStats tag payload s
  | .getCal tag payload => Sys2Proof.Machine.execGetCal tag payload s
  | .setCal tag payload => Sys2Proof.Machine.execSetCal tag payload s
  | .saveCal tag payload => Sys2Proof.Machine.execSaveCal tag payload s
  | .saveEnd readBack => Sys2Proof.Machine.execSaveEnd readBack s
  | .setSpecimen tag payload => Sys2Proof.Machine.execSetSpecimen tag payload s
  | .setMethod tag payload => Sys2Proof.Machine.execSetMethod tag payload s
  | .setPhase tag payload => Sys2Proof.Machine.execSetPhase tag payload s
  | .setMonitor tag payload => Sys2Proof.Machine.execSetMonitor tag payload s
  | .setRoute tag payload => Sys2Proof.Machine.execSetRoute tag payload s
  | .setOutput tag payload => Sys2Proof.Machine.execSetOutput tag payload s
  | .setLoop tag payload => Sys2Proof.Machine.execSetLoop tag payload s
  | .setTravel tag payload => Sys2Proof.Machine.execSetTravel tag payload s
  | .tare tag payload => Sys2Proof.Machine.execTare tag payload s
  | .zeroExt tag payload => Sys2Proof.Machine.execZeroExt tag payload s
  | .zeroPos tag payload => Sys2Proof.Machine.execZeroPos tag payload s
  | .enable tag payload => Sys2Proof.Machine.execEnable tag payload s
  | .disable tag payload => Sys2Proof.Machine.execDisable tag payload s
  | .move tag payload => Sys2Proof.Machine.execMove tag payload s
  | .jog tag payload => Sys2Proof.Machine.execJog tag payload s
  | .stop tag payload => Sys2Proof.Machine.execStop tag payload s
  | .clearFault tag payload => Sys2Proof.Machine.execClearFault tag payload s
  | .trigger tag payload => Sys2Proof.Machine.execTrigger tag payload s
  | .arm tag payload => Sys2Proof.Machine.execArm tag payload s
  | .hold tag payload => Sys2Proof.Machine.execHold tag payload s
  | .resume tag payload => Sys2Proof.Machine.execResume tag payload s
  | .endTest tag payload => Sys2Proof.Machine.execEndTest tag payload s
  | .abort tag payload => Sys2Proof.Machine.execAbort tag payload s
  | .clearTest tag payload => Sys2Proof.Machine.execClearTest tag payload s
  | .extConfirm tag payload => Sys2Proof.Machine.execExtConfirm tag payload s
  | .readResult tag payload => Sys2Proof.Machine.execReadResult tag payload s
  | .logStart tag payload => Sys2Proof.Machine.execLogStart tag payload s
  | .logStop tag payload => Sys2Proof.Machine.execLogStop tag payload s
  | .readLog tag payload => Sys2Proof.Machine.execReadLog tag payload s
  | .stream tag payload => Sys2Proof.Machine.execStream tag payload s
  | .setLog tag payload => Sys2Proof.Machine.execSetLog tag payload s
  | .setTime tag payload => Sys2Proof.Machine.execSetTime tag payload s
  | .adjustTime tag payload => Sys2Proof.Machine.execAdjustTime tag payload s
  | .trimTime tag payload => Sys2Proof.Machine.execTrimTime tag payload s
  | .readTime tag payload => Sys2Proof.Machine.execReadTime tag payload s
  | .reset tag payload => Sys2Proof.Machine.execReset tag payload s
  | .resetTakesEffect => Sys2Proof.Machine.execResetTakesEffect s
  | .restart tag payload => Sys2Proof.Machine.execRestart tag payload s
  | .restartTakesEffect => Sys2Proof.Machine.execRestartTakesEffect s
  | .hostFramingError chars => Sys2Proof.Machine.execHostFramingError chars s

end Sys2Proof.Machine
end

