-- ==== Sys2Proof/Safety.lean ====
section
/-! DEFINITION. What the statements say about a state: when a request is taken whole and what its reply adds, the words
of a control period, a hand-over's strain, what a test start leaves, a receiver after a frame, and the invariants that
the spec's rules put on every state. -/

namespace Sys2Proof.Machine

/-! ## Requests as the statements name them -/

/-- No event and no monitor firing waits to be given on (Log 4, 5): how every command leaves the machine. -/
abbrev State.Quiet (s : State) : Prop := s.router.raised = [] ∧ s.mon.fired = []

/-- The host receiver takes a whole frame: it hunts, a reply has room, and no reset waits (11 R200, R202, R210). -/
abbrev State.Listening (s : State) : Prop :=
  s.host.rx = .hunt ∧ s.host.replies.length < 16 ∧ s.host.resetPending = none

/-- The controller is READY, nothing waits to be given on, and the host receiver takes a whole frame. -/
abbrev State.Receptive (s : State) : Prop := s.store.ready = true ∧ s.Quiet ∧ s.Listening

/-- What a good request frame and its reply do to the host link beside the request's own effect (11 R201, R202,
R206): the frame is counted, the reply joins the tail of its queue, and an idle line begins to send. -/
def replied (kind : Nat) (tag : Byte) (result : Except Reason (List Byte)) (t : State) : State :=
  { t with host := { t.host with
      goodFrames := satU32 (t.host.goodFrames + 1)
      replies := t.host.replies ++ [replyOf kind tag result]
      tx := if t.host.tx = .idle then .reply else t.host.tx } }

/-- The same before the end of the arrival, for a request that raises events: they are routed, and then the arbiter
looks at the line (`settle`). -/
def answered (kind : Nat) (tag : Byte) (result : Except Reason (List Byte)) (t : State) : State :=
  { t with host := { t.host with
      goodFrames := satU32 (t.host.goodFrames + 1)
      replies := t.host.replies ++ [replyOf kind tag result] } }

/-- The event record formed now for a code and a value (08 R156). -/
def State.event (s : State) (code : Nat) (value : Int) : EventRecord :=
  { code := code, sec := s.time.sec, ns := s.time.ns, value := sat32 value, phase := s.phaseTag, lost := 0 }

/-- No enabled route entry names HOLD (08 R157). -/
abbrev State.NoHoldRoute (s : State) : Prop := ∀ k : Fin 8, ((s.router.routes.get k).enable && (s.router.routes.get k).hold) = false

/-- No head segment takes a trigger (04 R73): none waits in STANDBY, or it waits for another number. -/
abbrev State.NoHeadFor (n : Nat) (s : State) : Prop :=
  s.motion.state ≠ .standby ∨ ∀ seg ∈ s.motion.waitingHead, n ≠ 0 ∧ n ≠ seg.trigger

/-- No route entry is enabled (08 R157). -/
abbrev State.NoRoute (s : State) : Prop := ∀ k : Fin 8, (s.router.routes.get k).enable = false

/-- A route entry matches a code (08 R158): it is enabled, and the leading bits agree to its compared length. -/
abbrev State.Hit (s : State) (k : Fin 8) (code : Nat) : Prop :=
  (s.router.routes.get k).enable = true ∧
    code / 2 ^ (16 - (s.router.routes.get k).len) = (s.router.routes.get k).code / 2 ^ (16 - (s.router.routes.get k).len)

/-- The matching entry of highest index keeps the notice back (08 R158). -/
abbrev State.Silenced (s : State) (code : Nat) : Prop :=
  ∃ k : Fin 8, s.Hit k code ∧ (s.router.routes.get k).silent = true ∧ ∀ j : Fin 8, k < j → ¬ s.Hit j code

/-- A matching entry names MARK (08 R158). -/
abbrev State.Marked (s : State) (code : Nat) : Prop := ∃ k : Fin 8, s.Hit k code ∧ (s.router.routes.get k).mark = true

/-- A matching entry names HOLD (08 R158). -/
abbrev State.HeldBy (s : State) (code : Nat) : Prop := ∃ k : Fin 8, s.Hit k code ∧ (s.router.routes.get k).hold = true

/-- A matching entry names a line in its pulse mask (08 R158). -/
abbrev State.Pulses (s : State) (code : Nat) (line : Fin 8) : Prop :=
  ∃ k : Fin 8, s.Hit k code ∧ (s.router.routes.get k).mask.getLsbD line.val = true

/-- The notice queue after an event record is offered to it (08 R160). -/
def Router.offered (e : EventRecord) (r : Router) : Router :=
  if r.notices.length < 32 then { r with notices := r.notices ++ [{ e with lost := r.lost }], lost := 0 }
  else { r with lost := min 65535 (r.lost + 1) }

/-- What the route table makes of one event beside HOLD, with no gap pending (08 R159, R160, R166, 10 R192): its notice,
its MARK where the ring has room, with the source in force as it is stored (Log 51), and its pulses. -/
def State.routed (e : EventRecord) (s : State) : State :=
  let line := fun j : Fin 8 =>
    if s.Pulses e.code j ∧ (s.outs.get j).source = .pulse then
      { s.outs.get j with pulse := some (s.time.crystal + (s.outs.get j).width * 1000) }
    else s.outs.get j
  let mark : LogRecord :=
    { kind := .mark, held := s.seq.state == .held, inFlight := s.ext.removal.inFlight, fractured := s.seq.fractured
      source := s.strain.source, phase := if s.testing = true then s.seq.phase.val else 255, seqNo := 0
      testTime := s.time.testTime, force := e.code, stress := e.value, strain := s.strain.active, position := s.position }
  let ring := if s.Marked e.code ∧ s.log.ring.length < 4096 then s.log.ring ++ [mark] else s.log.ring
  { s with
    router := if s.Silenced e.code then s.router else s.router.offered e
    log := { s.log with ring := ring }
    outs := ⟨line 0, line 1, line 2, line 3, line 4, line 5, line 6, line 7⟩ }

/-- The kind, TAG and payload of a command that is a request of the catalogue (11, request catalogue). -/
def asRequest : Instr → Option (Nat × Byte × List Byte)
  | .identify tag p => some (0x01, tag, p)
  | .status tag p => some (0x02, tag, p)
  | .stats tag p => some (0x03, tag, p)
  | .getCal tag p => some (0x08, tag, p)
  | .setCal tag p => some (0x09, tag, p)
  | .saveCal tag p => some (0x0A, tag, p)
  | .setSpecimen tag p => some (0x10, tag, p)
  | .setMethod tag p => some (0x11, tag, p)
  | .setPhase tag p => some (0x12, tag, p)
  | .setMonitor tag p => some (0x13, tag, p)
  | .setRoute tag p => some (0x14, tag, p)
  | .setOutput tag p => some (0x15, tag, p)
  | .setLoop tag p => some (0x16, tag, p)
  | .setTravel tag p => some (0x17, tag, p)
  | .tare tag p => some (0x18, tag, p)
  | .zeroExt tag p => some (0x19, tag, p)
  | .zeroPos tag p => some (0x1A, tag, p)
  | .enable tag p => some (0x20, tag, p)
  | .disable tag p => some (0x21, tag, p)
  | .move tag p => some (0x22, tag, p)
  | .jog tag p => some (0x23, tag, p)
  | .stop tag p => some (0x24, tag, p)
  | .clearFault tag p => some (0x25, tag, p)
  | .trigger tag p => some (0x28, tag, p)
  | .arm tag p => some (0x29, tag, p)
  | .hold tag p => some (0x2A, tag, p)
  | .resume tag p => some (0x2B, tag, p)
  | .endTest tag p => some (0x2C, tag, p)
  | .abort tag p => some (0x2D, tag, p)
  | .clearTest tag p => some (0x2E, tag, p)
  | .extConfirm tag p => some (0x2F, tag, p)
  | .readResult tag p => some (0x30, tag, p)
  | .logStart tag p => some (0x31, tag, p)
  | .logStop tag p => some (0x32, tag, p)
  | .readLog tag p => some (0x33, tag, p)
  | .stream tag p => some (0x34, tag, p)
  | .setLog tag p => some (0x35, tag, p)
  | .setTime tag p => some (0x38, tag, p)
  | .adjustTime tag p => some (0x39, tag, p)
  | .trimTime tag p => some (0x3A, tag, p)
  | .readTime tag p => some (0x3B, tag, p)
  | .reset tag p => some (0x3E, tag, p)
  | .restart tag p => some (0x3F, tag, p)
  | .powerOn => none
  | .calLoadEnd => none
  | .sensorFrame _ _ => none
  | .sensorCharGapTimeout _ => none
  | .silenceTimerExpiry _ => none
  | .removalTimerExpiry => none
  | .encoderTransition _ _ => none
  | .controlPeriod => none
  | .jogKeepaliveExpiry => none
  | .blankingTimerExpiry => none
  | .offTimeExpiry => none
  | .gripSettleTick => none
  | .inputRawChange _ _ => none
  | .inputFilterExpiry _ => none
  | .phaseTimerExpiry => none
  | .testTimeMsTick => none
  | .pulseTimerExpiry _ => none
  | .logIntervalExpiry => none
  | .millTimeStep => none
  | .hostCharGapTimeout => none
  | .hostSofOverrun => none
  | .hostFrameCrcError _ => none
  | .hostUnknownRequest _ _ _ => none
  | .transmitFrameEnd => none
  | .saveEnd _ => none
  | .resetTakesEffect => none
  | .restartTakesEffect => none
  | .hostFramingError _ => none

/-- A command that comes from a sensor, the encoder, a pin, a timer, the store or the transmitter: no host request, no
character of the host link, no reset, no calibration load. -/
def fromMachine : Instr → Bool
  | .sensorFrame _ _ | .sensorCharGapTimeout _ | .silenceTimerExpiry _ | .removalTimerExpiry
  | .encoderTransition _ _ | .controlPeriod | .jogKeepaliveExpiry | .blankingTimerExpiry | .offTimeExpiry
  | .gripSettleTick | .inputRawChange _ _ | .inputFilterExpiry _ | .phaseTimerExpiry | .testTimeMsTick
  | .pulseTimerExpiry _ | .logIntervalExpiry | .millTimeStep | .hostCharGapTimeout | .transmitFrameEnd
  | .saveEnd _ => true
  | _ => false

/-! ## Words of the control period -/

/-- A speed moved toward a goal by at most a step (04 R75 step 4). -/
def movedToward (start goal step : Int) : Int :=
  if start + step < goal then start + step else if goal < start - step then start - step else goal

/-- The speed that one control period of amax changes (04 R75 step 4). -/
def State.accelStep (s : State) : Int := max 1 (roundDiv s.store.cal.amax 2000)

/-- The speed that one control period of the stop deceleration changes (04 R80). -/
def State.stopStep (s : State) : Int := max 1 (roundDiv s.store.cal.stopDecel 2000)

/-- What is sent for a candidate while DRIVE_EN is high (04 R69 steps 3 to 5, R72): the candidate kept within the
ceiling, and 0 where that runs against the sign of the last non-zero demand before the dwell's zero run. -/
def State.sentFor (s : State) (candidate : Int) : Int :=
  let c := max (-(s.motion.ceiling : Int)) (min (s.motion.ceiling : Int) candidate)
  if c ≠ 0 ∧ s.motion.sign = some (decide (c < 0)) ∧ s.motion.zeroRun < 2 * s.store.cal.dwellMs then 0 else c

/-- The drive is enabled with ESTOP closed, no switch and no soft limit is met, nothing waits to be given on, and no
route names HOLD. -/
abbrev State.RunsFree (s : State) : Prop :=
  s.motion.driveEn = true ∧ s.estopClosed = true ∧ s.limitPos = false ∧ s.limitNeg = false ∧ s.upperMet = false ∧
    s.lowerMet = false ∧ s.Quiet ∧ s.NoHoldRoute

/-! ## Hand-overs and monitors as the statements name them -/

/-- A monitor after one evaluation at a value (08 R154): fired with the value kept where it was ARMED and the value meets
its threshold in its direction; ARMED again where it was FIRED, re-arms, and the value has come back by the hysteresis. -/
def Monitor.evaluatedAt (v : Int) (m : Monitor) : Monitor :=
  let meets := if m.falling = true then v ≤ m.threshold else m.threshold ≤ v
  let returns := if m.falling = true then m.threshold + m.hysteresis ≤ v else v ≤ m.threshold - m.hysteresis
  if m.state = .armed ∧ meets then { m with state := .fired, value := v }
  else if m.state = .fired ∧ m.rearm = true ∧ returns then { m with state := .armed }
  else m

/-- No enabled monitor watches a quantity (08 R152). -/
abbrev State.Unwatched (s : State) (q : Quantity) : Prop :=
  ∀ k : Fin 8, (s.mon.bank.get k).enable = true → (s.mon.bank.get k).quantity ≠ q

/-- The reading of a source that a hand-over stitches onto (02 R33 step 2). -/
def State.readingOf (s : State) (x : Source) : Int :=
  if x = .primary then s.ext.primary.strain else if x = .secondary then s.ext.secondary.strain else s.strain.epsC

/-- The next source away from the primary (03 R57). -/
def State.afterPrimary (s : State) : Source := if s.ext.secondary.state = .ready then .secondary else .crosshead

/-- The Strain Channel after a hand-over (02 R33): the new source, stitched so that the active strain stands. -/
def State.stitchedOnto (s : State) (x : Source) : Strain :=
  { s.strain with source := x, stitch := s.strain.active - s.readingOf x }

/-- The active strain fits its signed 32 bits, as every formed one does (02 R29; Log 57). -/
abbrev State.StrainFits (s : State) : Prop := -2147483648 ≤ s.strain.active ∧ s.strain.active ≤ 2147483647

/-! ## Test start -/

/-- The source that a test start chooses (02 R31 step 3). -/
def State.sourceAtStart (s : State) : Source :=
  if s.ext.primary.state = .ready then .primary else if s.ext.secondary.state = .ready then .secondary else .crosshead

/-- The crosshead strain re-formed at a test start, with P0 at the present position (02 R31 step 4): that of the
compliance term alone. -/
def State.epsAtStart (s : State) : Int :=
  let stretch := roundDiv ((s.store.cal.compliance : Int) * s.force.f) 100000
  sat32 (roundDiv (-stretch * 10000) (s.strain.specimen.lc : Int))

/-- The active strain at a test start: the present reading of the source chosen (02 R31 step 5). -/
def State.activeAtStart (s : State) : Int :=
  match s.sourceAtStart with
  | .primary => sat32 s.ext.primary.strain
  | .secondary => sat32 s.ext.secondary.strain
  | .crosshead => s.epsAtStart

/-- What a test start leaves in each block, from the state before it (07 R131): test time (10 R195), the zero of the test
(02 R31), the Handler (03 R41, R46, R59), the peak (01 R20), the Result Engine (09 R169, R182), the Sample Log but for its
ring (10 R189), the monitors (08 R152 to R154), the Sequencer (07 R131 step 8, R135), the motion with its ceiling (04 R84,
R70), and the Rate Loop rebased onto phase 0 (05 R100). That the moment HELD was last entered is none is the model's
choice (Log 61), and so are the measured value kept at the rebase (Log 36) and the lower limit at which the strains
saturate (Log 57). -/
abbrev State.BeginsTest (s t : State) : Prop :=
  let x := s.sourceAtStart
  let p := s.seq.phases.e0
  let demand := if s.estopClosed = true then s.motion.lastDemand else 0
  let ceiling := min s.store.cal.vmax p.vmax
  let rate := if p.mode = .holdPosition then 0 else p.rate
  let measured := match p.mode with
    | .positionRate | .holdPosition => s.position
    | .stressRate => s.strain.stress
    | .strainRate => s.activeAtStart
  let forward := match p.mode with
    | .positionRate => rate
    | .strainRate => roundDiv (rate * (s.strain.specimen.lc : Int)) 10000
    | .stressRate | .holdPosition => 0
  t.time = { s.time with testTime := 0, testRunning := true, msSeen := 0 } ∧
  t.strain = { s.strain with
    p0 := s.position, stitch := 0, source := x, epsC := s.epsAtStart, active := s.activeAtStart } ∧
  t.ext = { s.ext with
    primary := if x = .primary then { s.ext.primary with state := .active } else s.ext.primary
    secondary := if x = .secondary then { s.ext.secondary with state := .active } else s.ext.secondary
    removal := { policy := s.seq.method.policy, mode := none, requestTime := none, edges := 0, timer := .stopped
                 cond := if s.seq.method.policy = .none then none else s.seq.method.cond
                 strainAt := none, kind := none }
    slipM := s.ext.primary.strain, slipX := s.epsAtStart } ∧
  t.force = { s.force with fmax := 0, strainAtFmax := 0, hasPoint := false } ∧
  t.result = { fit := .isOpen, n := 0, sx := 0, sy := 0, sxy := 0, sxx := 0, e := none, proof := .waiting
               yield := .searching, smax := none, minAll := none, minClear := none, lastPlateau := none
               rmDecided := false, fracArmed := true, prev := none, record := some (ResultRecord.opened x) } ∧
  t.log = { s.log with
    ring := t.log.ring, state := .running, seqNo := 0, gap := 0, due := some (s.time.crystal + s.log.interval * 500) } ∧
  (∀ k : Fin 8,
    let w := s.mon.bank.get k
    t.mon.bank.get k =
      if w.enable = true ∧ w.always = false then { w with state := .armed }
      else if w.enable = true ∧ w.quantity = .crossheadStrain then w.evaluatedAt s.epsAtStart
      else if w.enable = true ∧ w.quantity = .strain then w.evaluatedAt s.activeAtStart
      else w) ∧
  t.seq = { s.seq with
    state := .running, phase := 0, held := HeldSet.empty, heldSince := none, pendingExit := false, armedTrigger := none
    endReason := none, abortCause := none, fractured := false, phaseStart := some s.time.crystal } ∧
  t.motion = { s.motion with
    state := .test, driveEn := s.estopClosed, dest := none, lastDemand := demand, ceiling := ceiling } ∧
  t.loop = { s.loop with
    mode := some p.mode, rate := rate, acc := 2000 * measured, target := measured, meas := measured
    integ := max (-(ceiling : Int)) (min (ceiling : Int) (demand - forward)), prev := demand } ∧
  t.prot.latched = s.prot.latched ∧ t.store = s.store ∧ t.links = s.links ∧ t.ins = s.ins

/-! ## Frames on a sensor link -/

/-- The seven characters of a sensor frame (01 R1). -/
def sensorFrameChars (st d2 d1 d0 sq ck : Byte) : List SerialChar :=
  cleanChars [0xB4, st, d2, d1, d0, sq, ck]

/-- The frame's check byte is right and its sensor-fault flag clear (01 R3 conditions 2 and 3). -/
def frameSound (st d2 d1 d0 sq ck : Byte) : Bool := ck == st ^^^ d2 ^^^ d1 ^^^ d0 ^^^ sq && !st.getLsbD 3

/-- The force that a good load frame publishes (01 R11 to R13, R18): the last one where the reading is overrange or the
range uncalibrated, else the untared force under the tare, which the sixteenth frame of a tare in flight sets. -/
def State.frameForce (st d2 d1 d0 : Byte) (s : State) : Int :=
  let raw := (d2 ++ d1 ++ d0).toInt
  let c := s.store.cal.range (st.toNat % 4)
  let u := sat32 (roundDiv ((raw - c.zero) * c.gain) 1048576)
  if st.getLsbD 2 = true ∨ 8388352 ≤ raw ∨ raw ≤ -8388352 ∨ c.gain = 0 then s.force.f
  else match s.force.tareOp with
    | some op => if 15 ≤ op.count then sat32 (u - sat32 (roundDiv (op.sum + u) 16)) else sat32 (u - s.force.tare)
    | none => sat32 (u - s.force.tare)

/-- A published force does not set the overload condition (06 R110, R111): it is set already, or no limit is given, or the
force lies below the limit. -/
abbrev State.NoNewOverload (f : Int) (s : State) : Prop :=
  s.prot.overload = true ∨ s.store.cal.flim = 0 ∨ f.natAbs < s.store.cal.flim

/-- The condition of a receiver's error count after a rise by `k` (01 R8): the count and the threshold-reported mark. -/
def Receiver.withErrors (k : Nat) (r : Receiver) : Receiver :=
  let c := min 65535 (r.errCount + k)
  { r with errCount := c, reported := r.reported || (decide (r.errCount < c) && decide (r.errThreshold ≤ c)) }

/-- The missed frames that a good frame shows (01 R4). -/
def Receiver.missedBy (r : Receiver) (sq : Byte) : Nat :=
  if r.lock = .unlocked then 0
  else match r.lastSeq with
    | some l => (sq.toNat + 512 - l.toNat - 1) % 256 - r.badSince
    | none => 0

/-- A receiver after a good frame with a sequence number, taken at a crystal microsecond on a link with a silence time
(01 R3 to R6, R8, R9). -/
def Receiver.afterGood (sq : Byte) (now silenceTime : Nat) (r : Receiver) : Receiver :=
  let k := r.missedBy sq
  { r.withErrors k with
    lock := if r.lock = .unlocked then .acquiring else if r.lock = .locked ∨ 8 ≤ r.cg + 1 then .locked else .acquiring
    asm := .hunting
    cg := if r.lock = .unlocked then 1 else if r.lock = .locked then r.cg else r.cg + 1
    cb := if r.lock = .locked ∨ (r.lock = .acquiring ∧ 8 ≤ r.cg + 1) then 0 else r.cb
    badSince := 0
    lastSeq := some sq
    goodFrames := min 4294967295 (r.goodFrames + 1)
    missedFrames := min 4294967295 (r.missedFrames + k)
    silence := some (now + silenceTime) }

/-- A receiver after a bad frame (01 R3 to R6, R8, R9). -/
def Receiver.afterBad (r : Receiver) : Receiver :=
  { r.withErrors 1 with
    lock := if r.lock = .locked ∧ r.cb + 1 < 4 then .locked else .unlocked
    asm := .hunting
    cg := if r.lock = .locked ∧ r.cb + 1 < 4 then r.cg else 0
    cb := if r.lock = .locked then (if r.cb + 1 < 4 then r.cb + 1 else 0) else r.cb
    badSince := r.badSince + 1
    badFrames := min 4294967295 (r.badFrames + 1)
    silence := if r.lock = .acquiring ∨ (r.lock = .locked ∧ ¬ r.cb + 1 < 4) then none else r.silence }

/-! ## Invariants -/

/-- The transmit arbiter leaves no work on an idle line (11 R202): no reply; and, unless a reset waits, no notice and
no record to stream. -/
abbrev State.LineServed (s : State) : Prop :=
  s.host.tx = .idle →
    s.host.replies = [] ∧
    (s.host.resetPending = none → s.router.notices = [] ∧ (s.log.stream = true → s.log.ring = []))

/-- Every queue and every accumulation keeps within what the rules let it hold (04 R73, 08 R160, 09 R170, 10 R187,
11 R202), and a frame is begun only with room for its reply (11 R200). -/
abbrev State.WithinCapacity (s : State) : Prop :=
  s.motion.queue.length ≤ 8 ∧ s.router.notices.length ≤ 32 ∧ s.router.lost ≤ 65535 ∧ s.result.n ≤ 8192 ∧
  s.log.ring.length ≤ 4096 ∧ s.host.replies.length ≤ 16 ∧ (s.host.rx ≠ .hunt → s.host.replies.length < 16)

/-- DRIVE_EN is high only in a state that enables the drive with ESTOP closed, and with DRIVE_EN low the demand last
sent is 0 (04 R65, 06 R116); during the calibration load the motion is at rest with the drive off (11 R207). -/
abbrev State.DriveSafe (s : State) : Prop :=
  (s.motion.driveEn = true →
    (s.motion.state = .standby ∨ s.motion.state = .move ∨ s.motion.state = .jog ∨ s.motion.state = .test ∨
      s.motion.state = .stopping) ∧ s.estopClosed = true) ∧
  (s.motion.driveEn = false → s.motion.lastDemand = 0) ∧
  (s.store.ready = false → s.motion.state = .off ∨ s.motion.state = .fault)

/-- The test's safety (07 R139, R140): RUNNING only with SLR0 LOCKED, CAL_VALID true, no fault latched and the
held-reason set empty; HELD only with CAL_VALID true and no fault latched, and with SLR0 not LOCKED only while
LOCK_LOSS is in the set; the motion state is TEST exactly while the Sequencer is RUNNING or HELD (04 R84); during the
calibration load the Sequencer is IDLE (11 R207). -/
abbrev State.TestSafe (s : State) : Prop :=
  (s.seq.state = .running →
    s.links.slr0.lock = .locked ∧ s.store.calValid = true ∧ s.prot.latched = FaultSet.empty ∧
      s.seq.held = HeldSet.empty) ∧
  (s.seq.state = .held →
    s.store.calValid = true ∧ s.prot.latched = FaultSet.empty ∧
      (s.links.slr0.lock ≠ .locked → s.seq.held.lockLoss = true)) ∧
  (s.motion.state = .test ↔ s.seq.state = .running ∨ s.seq.state = .held) ∧
  (s.store.ready = false → s.seq.state = .idle)

/-- Mill time, its fraction and the trim lie within their fields (10 R196). -/
abbrev State.MillTimeInRange (s : State) : Prop :=
  s.time.sec < 4294967296 ∧ s.time.ns < 1000000000 ∧ s.time.frac < 4294967296 ∧
    -100000 ≤ s.time.trim ∧ s.time.trim ≤ 100000 ∧ s.time.step = trimStep s.time.trim

end Sys2Proof.Machine
end

