-- ==== Sys2Proof/Certificates/Slice0/Obligations.lean ====
section
/-! DEFINITION. The statements for the provers. A statement about a request speaks of a state that is `Receptive`:
READY, with nothing waiting to be routed (kept by every step, O54) and a host receiver that takes a whole frame. -/

open Sys2Proof Sys2Proof.Machine

/-! ## The machine -/

/-- O1. A step takes the command at the front of the queue and runs it on the state with the queue's rest. -/
def Obligations.StepTakesFront : Prop :=
  ∀ (c : Instr) (rest : List Instr) (s : State), s.pending = c :: rest → step s = exec c { s with pending := rest }

/-- O2. Every command answers a next state in every state, and none touches the commands that wait. That no command ends
in a stop is the model's choice (Log 46); an expiry of a timer that does not run answers the state as it is (Log 2). -/
def Obligations.EveryCommandCompletes : Prop :=
  ∀ (c : Instr) (s : State), ∃ t, exec c s = .next t ∧ t.pending = s.pending

/-- O3. Every value that the rules give the machine right after reset (R10, R21, R25, R38, R63, R88, R107, R124, R150,
R155, R167, R186, R194, R195, R198, R207, R210), with the control period due 500 µs later (R88). The condition is INIT
(R207), and no command waits. Left out are the values that no rule states: they are the model's choice (Logs 13, 14, 16,
51). -/
def Obligations.ResetHolds : Prop :=
  let s := State.reset
  let ext : Ext := { state := .absent, zero := 0, zeroed := false, raw := 0, elong := 0, strain := 0, op := none }
  (∀ n, s.links.get n =
    { lock := .unlocked, asm := .hunting, cg := 0, cb := 0, badSince := 0, lastSeq := none, errCount := 0,
      errThreshold := 256, reported := false, goodFrames := 0, badFrames := 0, missedFrames := 0, silence := none }) ∧
  s.force =
    { tare := 0, f := 0, liveOver := false, liveNear := false, latchOver := false, latchNear := false, uncal := none,
      tareOp := none, fmax := 0, strainAtFmax := 0, hasPoint := false } ∧
  s.strain =
    { specimen := { area := 0, lc := 0, l0Prim := 0, l0Sec := 0, eMin := 0, eMax := 0 }, stress := 0, stressSat := false,
      p0 := 0, source := .crosshead, stitch := 0, epsC := 0, active := 0, setSource := s.strain.setSource } ∧
  s.ext =
    { primary := ext, secondary := ext, removeRequest := false, slipM := 0, slipX := 0
      removal := { policy := .none, cond := none, mode := none, requestTime := none, edges := 0, timer := .stopped,
                   strainAt := none, kind := none } } ∧
  s.motion =
    { state := .off, dest := none, driveEn := false, queue := [], refX := s.motion.refX, jog := none, keepalive := none,
      softLower := none, softUpper := none, ceiling := s.motion.ceiling, blind := true, lastDemand := 0,
      lastWord := s.motion.lastWord, sign := none, zeroRun := 0, dwell := false, encCount := 0,
      encErrors := 0, encA := s.motion.encA, encB := s.motion.encB, periodDue := 500 } ∧
  s.loop =
    { gPos := ⟨0, 0⟩, gStress := ⟨0, 0⟩, gStrain := ⟨0, 0⟩, mode := none, rate := 0, acc := 0, target := 0, integ := 0,
      prev := 0, meas := 0, err := 0, pTerm := 0, raw := 0 } ∧
  s.prot =
    { latched := { overload := false, driveFault := false, estop := false, overPos := false, overNeg := false },
      overload := false, blanking := none, episode := none, offTime := none, gripCount := 0 } ∧
  s.seq.state = .idle ∧
  s.seq.method =
    { phaseCount := 0, strainZero := false, policy := .none, cond := none, timeout := 10, guardMargin := 0, slip := 500,
      lockAbort := false, fitLower := 100000, fitUpper := 300000, proofOffset := 20000, yieldDrop := 5,
      transient := 5000, yieldLimit := 100000, plateauLimit := 500000, fmaxPass := 20, fracture := 200,
      minFracture := 100000, useBreak := false, gripSettle := 0 } ∧
  (∀ k, s.seq.phases.get k = { mode := .holdPosition, rate := 0, vmax := 0, exit := .fractureOnly, arg := 0 }) ∧
  s.seq.phase = 0 ∧ s.seq.phaseStart = none ∧
  s.seq.held = { host := false, route := false, removal := false, lockLoss := false, grip := false } ∧
  s.seq.heldSince = none ∧ s.seq.pendingExit = false ∧ s.seq.armedTrigger = none ∧ s.seq.endReason = none ∧
  s.seq.abortCause = none ∧ s.seq.fractured = false ∧
  (∀ k, s.mon.bank.get k =
    { enable := false, quantity := .force, falling := false, threshold := 0, hysteresis := 0, rearm := false,
      always := false, state := .disabled, value := 0 }) ∧
  (∀ k, s.router.routes.get k =
    { enable := false, code := 0, len := 0, silent := false, mark := false, hold := false, mask := 0 }) ∧
  s.router.notices = [] ∧ s.router.lost = 0 ∧
  (∀ k, (s.ins.get k).asserted = false ∧ (s.ins.get k).timer = none) ∧
  (∀ k, s.outs.get k = { source := .low, invert := false, width := 100, pulse := none } ∧ s.outLevel k = false) ∧
  s.result.record = none ∧ s.result.fit = .isOpen ∧ s.result.n = 0 ∧ s.result.sx = 0 ∧ s.result.sy = 0 ∧
  s.result.sxy = 0 ∧ s.result.sxx = 0 ∧ s.result.e = none ∧ s.result.proof = .waiting ∧ s.result.yield = .searching ∧
  s.result.smax = none ∧ s.result.minAll = none ∧ s.result.minClear = none ∧ s.result.rmDecided = false ∧
  s.result.fracArmed = true ∧ s.result.prev = none ∧
  s.log.ring = [] ∧ s.log.state = .stopped ∧ s.log.due = none ∧ s.log.seqNo = 0 ∧ s.log.gap = 0 ∧ s.log.interval = 20 ∧
  s.log.stream = false ∧
  s.time.testTime = 0 ∧ s.time.testRunning = false ∧ s.time.sec = 0 ∧ s.time.ns = 0 ∧ s.time.frac = 0 ∧
  s.time.trim = 0 ∧ s.time.step = 4294967296000 ∧
  s.host.rx = .hunt ∧ s.host.replies = [] ∧ s.host.tx = .idle ∧ s.host.goodFrames = 0 ∧ s.host.crcErrors = 0 ∧
  s.host.framingErrors = 0 ∧ s.host.overruns = 0 ∧ s.host.framesSent = 0 ∧ s.host.resetPending = none ∧
  s.store.ready = false ∧ s.store.save = none ∧ s.pending = []

/-- O4. POWER_ON gives every block its value after reset, over the stored block, which only a save in flight can have
changed (R209, R210); and a RESET whose acceptance is the one frame left and leaves HTXD has the same effect. The
model's choices in it: the pins' raw and encoder levels are kept with the filtered levels low, and every value that the
rules leave unstated (Logs 14, 51); the calibration store as it stands before the load (Log 13); the free counter's
advance and the torn block (Log 16). -/
def Obligations.PowerOnAndResetTakeEffect : Prop :=
  ∀ s : State,
    (∃ t, exec .powerOn s = .next t ∧
      t = { State.reset with
        pending := s.pending
        motion := { State.reset.motion with encA := s.motion.encA, encB := s.motion.encB }
        ins := s.ins.map (fun i => { raw := i.raw, filtered := false, asserted := false, timer := none })
        store := { State.reset.store with nv := t.store.nv }
        free := t.free } ∧
      (s.store.save = none → t.store.nv = s.store.nv) ∧
      (∀ block, s.store.save = some block → t.store.nv = .bytes block ∨ ∃ k, t.store.nv = .torn k)) ∧
    (s.host.resetPending = some .reset → s.host.tx = .reply → s.host.replies.length = 1 →
      ∃ t, exec .resetTakesEffect s = .next t ∧ exec .powerOn s = .next t)

/-- O5. A RESTART whose acceptance is the one frame left and leaves HTXD discards test, motion and queues, and keeps
calibration, configuration, position, receivers, inputs, latched faults and mill time (R210 with R21, R38, R63, R88,
R107, R124, R150, R167, R194, R195, R198). Of each extensometer the zero, the zeroed mark and the latest raw reading,
elongation and strain are kept, its state is the one that its link and mark give, and an operation on it is dropped
without an event; the removal record and the slip tracker are cleared (R63). The ceiling is formed again, of the machine
vmax and, while SLR0 is not LOCKED or CAL_VALID is false, the blind speed (R88, R70). The model's choices in it: the
phase timer's count, the abort time and the first skipped number at 0, and the characters last sent on DLTX and the
reference X kept (Log 14), and the source of the set last handed on as it stood (Log 51). -/
def Obligations.RestartTakesEffect : Prop :=
  ∀ s : State, s.host.resetPending = some .restart → s.host.tx = .reply → s.host.replies.length = 1 →
    let derived := fun (link : Receiver) (e : Ext) =>
      if link.lock ≠ .locked then ExtState.absent else if e.zeroed = true then .ready else .unzeroed
    let blind := s.links.slr0.lock ≠ .locked ∨ s.store.calValid = false
    ∃ t, exec .restartTakesEffect s = .next t ∧
      t.pending = s.pending ∧ t.links = s.links ∧ t.ins = s.ins ∧ t.store = s.store ∧
      t.force = { s.force with tareOp := none, fmax := 0, strainAtFmax := 0, hasPoint := false } ∧
      t.strain = { s.strain with source := .crosshead, stitch := 0, active := s.strain.epsC } ∧
      t.ext = {
        primary := { s.ext.primary with op := none, state := derived s.links.slr1 s.ext.primary }
        secondary := { s.ext.secondary with op := none, state := derived s.links.slr2 s.ext.secondary }
        removal := { policy := .none, cond := none, mode := none, requestTime := none, edges := 0, timer := .stopped
                     strainAt := none, kind := none }
        removeRequest := false, slipM := 0, slipX := 0 } ∧
      t.motion = { s.motion with
        state := .off, driveEn := false, lastDemand := 0, queue := [], jog := none, keepalive := none, dwell := false
        dest := none, ceiling := if blind then min s.store.cal.vmax s.store.cal.blindSpeed else s.store.cal.vmax } ∧
      t.loop = { State.reset.loop with gPos := s.loop.gPos, gStress := s.loop.gStress, gStrain := s.loop.gStrain } ∧
      t.prot = { s.prot with blanking := none, episode := none, offTime := none } ∧
      t.seq = { State.reset.seq with method := s.seq.method, phases := s.seq.phases } ∧
      t.router = { State.reset.router with routes := s.router.routes } ∧
      t.outs = s.outs.map (fun o => { o with pulse := none }) ∧
      t.result = State.reset.result ∧
      t.log = { State.reset.log with interval := s.log.interval, stream := s.log.stream } ∧
      t.time = { s.time with testTime := 0, testRunning := false, msSeen := 0 } ∧
      t.host = { s.host with
        rx := .hunt, replies := [], tx := .idle, resetPending := none,
        framesSent := min 4294967295 (s.host.framesSent + 1) }

/-- O6. The receivers (R10) and the monitors (R155) after the three resets: no event waits or is queued after any. -/
def Obligations.ReceiversAndMonitorsAfterResets : Prop :=
  let freshLink : Receiver :=
    { lock := .unlocked, asm := .hunting, cg := 0, cb := 0, badSince := 0, lastSeq := none, errCount := 0,
      errThreshold := 256, reported := false, goodFrames := 0, badFrames := 0, missedFrames := 0, silence := none }
  let freshMonitor : Monitor :=
    { enable := false, quantity := .force, falling := false, threshold := 0, hysteresis := 0, rearm := false,
      always := false, state := .disabled, value := 0 }
  ∀ s : State,
    (∃ t, exec .powerOn s = .next t ∧ (∀ n, t.links.get n = freshLink) ∧ (∀ k, t.mon.bank.get k = freshMonitor) ∧
      t.router.raised = [] ∧ t.router.notices = []) ∧
    (s.host.resetPending = some .reset → s.host.tx = .reply → s.host.replies.length = 1 →
      ∃ t, exec .resetTakesEffect s = .next t ∧ (∀ n, t.links.get n = freshLink) ∧
        (∀ k, t.mon.bank.get k = freshMonitor) ∧ t.router.raised = [] ∧ t.router.notices = []) ∧
    (s.host.resetPending = some .restart → s.host.tx = .reply → s.host.replies.length = 1 →
      ∃ t, exec .restartTakesEffect s = .next t ∧ (∀ n, t.links.get n = s.links.get n) ∧
        (∀ k, t.mon.bank.get k = { s.mon.bank.get k with
          state := if (s.mon.bank.get k).enable then .armed else .disabled, value := 0 }) ∧
        t.router.raised = [] ∧ t.router.notices = [])

/-! ## Sensor links and force -/

/-- O7. A curve point (R168): a load frame of a test, from either kind of source, whose force does not set the overload
condition; the monitors it fires meet neither the exit nor the removal condition. The frame forms force, stress and
crosshead strain (R11, R24, R28) and, where the crosshead is the source, the active strain (R29), and evaluates each
monitor of those quantities once (08 R153, R154). The peak takes the point (R20). A point that meets the force-drop test
(R178) takes the fracture: the break values of the point before it, and the test to its end with FRACTURE (R180). Any
other goes through the modulus fit (R170, R171, R173), the proof search (R172), the yield detector (R174, R175) and the
Rm decision (R177), forms Rm, Fmax, Agt and Ag (R176), and is stored with its source. A decision that is the phase's
exit (07 R132) ends the test with LAST_PHASE in the last phase of a RUNNING one, else leads into the next phase, here one
that leaves by time or fracture alone and takes no strain zero; in HELD it is pending. A proof decision that meets
AFTER_PROOF (03 R47) starts the removal (R48, R51), here in a phase that no result ends and with the arms closed: PAUSE
adds REMOVAL to the held-reason set, FLY hands on at once without a step (R33). The model's choices in it: the lower limit
at which values saturate (Log 57), that the point which finds the yield point enters the minima untested (Log 62), and
that only an ACTIVE primary that is the source can start a removal (Log 7). -/
def Obligations.CurvePoint : Prop :=
  ∀ (st d2 d1 d0 sq ck : Byte) (s : State), s.store.ready = true → s.links.slr0.asm = .hunting →
    frameSound st d2 d1 d0 sq ck = true → (s.links.slr0.lock = .unlocked ∨ s.links.slr0.lastSeq ≠ some sq) →
    s.Quiet → s.NoHoldRoute → s.inTest = true → s.NoNewOverload (s.frameForce st d2 d1 d0) →
    s.seq.method.fitLower < s.seq.method.fitUpper → 1 ≤ s.strain.specimen.eMin →
    let m := s.seq.method
    let old := s.result
    let cal := s.store.cal
    let spec := s.strain.specimen
    let f := s.frameForce st d2 d1 d0
    let stress := if spec.area = 0 then 0 else roundDiv (f * 100000) (spec.area : Int)
    let y := sat32 stress
    let across := s.position - s.strain.p0 - roundDiv ((cal.compliance : Int) * f) 100000
    let epsC := if spec.lc = 0 then 0 else sat32 (roundDiv (across * 10000) (spec.lc : Int))
    let x := if s.strain.source = .crosshead then sat32 (epsC + s.strain.stitch) else s.strain.active
    let rises := s.force.hasPoint = false ∨ s.force.fmax < f
    let fmax := if rises then f else s.force.fmax
    let formed : Quantity → Option Int := fun q => match q with
      | .force => some f
      | .stress => some y
      | .crossheadStrain => some epsC
      | .strain => if s.strain.source = .crosshead then some x else none
      | .forcePerMilleOfPeak => if 0 < fmax then some (sat32 (roundDiv (f * 1000) fmax)) else none
      | .primaryStrain | .secondaryStrain | .position | .testTimeMs => none
    let evaluated := fun k : Fin 8 =>
      let w := s.mon.bank.get k
      match formed w.quantity with
      | some v => if w.enable = true then w.evaluatedAt v else w
      | none => w
    let fires := fun k : Fin 8 => (s.mon.bank.get k).state = .armed ∧ (evaluated k).state = .fired
    let phase := s.seq.phases.get s.seq.phase
    let byResult := phase.exit = .yieldDecided ∨ phase.exit = .proofDecided ∨ phase.exit = .fmaxPassed
    let last := m.phaseCount ≤ s.seq.phase.val + 1
    let next : Fin 8 := Fin.ofNat 8 (s.seq.phase.val + 1)
    let canRemove := s.ext.removal.policy ≠ .none ∧ s.ext.removal.kind = none ∧ s.ext.primary.state = .active ∧
      s.strain.source = .primary
    let removal := canRemove ∧ s.ext.removal.cond = some .afterProof
    (∀ k, fires k → ¬ (phase.exit = .monitor ∧ phase.arg = k.val) ∧
      (canRemove → s.ext.removal.cond ≠ some (.monitor k))) →
    (byResult → s.seq.state = .running → ¬ last → s.seq.phase.val < 7 ∧
      ((s.seq.phases.get next).exit = .time ∨ (s.seq.phases.get next).exit = .fractureOnly) ∧
      (s.seq.phase = 0 → m.strainZero = false)) →
    (removal → ¬ byResult ∧ s.armsOpen = false ∧ (s.ext.removal.policy = .fly →
      phase.exit ≠ .handoverDone ∧ s.Unwatched .strain ∧ s.StrainFits)) →
    ∀ r, s.result.record = some r → r.closed = false →
    ∃ t, exec (.sensorFrame .slr0 (sensorFrameChars st d2 d1 d0 sq ck)) s = .next t ∧
      let elastic := fun (stress : Int) (e : Nat) => roundDiv (stress * 10000) (e : Int)
      let drops := old.fracArmed = true ∧ stress = y ∧ 0 < fmax ∧ (m.minFracture : Int) ≤ fmax ∧
        1000 * f < (m.fracture : Int) * fmax
      let top : StressStrain := match old.smax with
        | none => { stress := y, strain := x }
        | some a => if a.stress < y then { stress := y, strain := x } else a
      let tested := (m.fitUpper : Int) < top.stress
      let falls := 1000 * y < (1000 - (m.yieldDrop : Int)) * top.stress
      let lesser := fun a : Option Int => match a with | none => some y | some v => some (min v y)
      let proofNow := (old.fit = .isOpen ∧ t.result.fit = .failed) ∨
        (t.result.proof = .found ∧ (old.proof = .isOpen ∨ (old.fit = .isOpen ∧ t.result.fit = .done)))
      let met := (phase.exit = .proofDecided ∧ proofNow) ∨
        (phase.exit = .yieldDecided ∧ ((old.yield = .searching ∧ t.result.yield = .none) ∨
          (old.yield = .plateau ∧ t.result.yield = .decided))) ∨
        (phase.exit = .fmaxPassed ∧ old.rmDecided = false ∧ t.result.rmDecided = true)
      let endsTest := met ∧ s.seq.state = .running ∧ last
      let starts := removal ∧ proofNow
      let pauses := starts ∧ s.ext.removal.policy = .pause
      let flies := starts ∧ s.ext.removal.policy = .fly
      t.force.f = f ∧ t.strain.stress = y ∧ (t.strain.stressSat = true ↔ stress ≠ y) ∧ t.strain.epsC = epsC ∧
      t.strain.active = x ∧ t.force.fmax = fmax ∧ t.force.strainAtFmax = (if rises then x else s.force.strainAtFmax) ∧
      (∀ k, t.mon.bank.get k = evaluated k) ∧ t.prot.latched = s.prot.latched ∧
      (drops → t.inTest = false ∧ t.seq.endReason = some .fracture ∧ t.seq.fractured = true ∧
        t.result.fracArmed = false ∧ t.result.prev = old.prev ∧
        ∃ q, t.result.record = some q ∧ (old.prev = none → q.brk = r.brk ∧ q.af = r.af) ∧
          ∀ b, old.prev = some b → q.brk = some { strain := b.strain, force := b.force } ∧
            q.af = old.e.map (fun e => sat32 (b.strain - elastic b.stress e))) ∧
      (¬ drops → endsTest → t.inTest = false ∧ t.seq.endReason = some .lastPhase ∧ t.seq.phase = s.seq.phase ∧
        t.result.fracArmed = old.fracArmed ∧
        (s.motion.state = .test → s.motion.lastDemand ≠ 0 → t.seq.state = .finishing ∧ t.motion.state = .stopping)) ∧
      (¬ drops → ¬ endsTest →
        t.time = s.time ∧ t.ins = s.ins ∧ t.store = s.store ∧
        t.seq = (
          if pauses then { s.seq with
            state := .held, held := { s.seq.held with removal := true }
            heldSince := if s.seq.state = .running then some s.time.crystal else s.seq.heldSince }
          else if met ∧ s.seq.state = .held then { s.seq with pendingExit := true }
          else if met then { s.seq with phase := next, phaseStart := some s.time.crystal }
          else s.seq) ∧
        t.ext = (if starts then { s.ext with
            primary := { s.ext.primary with state := .removing }
            secondary := if flies ∧ s.ext.secondary.state = .ready then { s.ext.secondary with state := .active }
              else s.ext.secondary
            removal := { s.ext.removal with
              mode := some (if s.ext.removal.policy = .pause then .pause else .fly), requestTime := some s.time.testTime
              edges := 0, timer := .running (s.time.testTime + m.timeout * 1000000)
              strainAt := if flies then some x else s.ext.removal.strainAt }
            removeRequest := true }
          else s.ext) ∧
        (let formedStrain : Strain := { s.strain with
            stress := y, stressSat := t.strain.stressSat, epsC := epsC, active := x, setSource := s.strain.source }
         t.strain = if flies then { formedStrain with
              source := s.afterPrimary
              stitch := x - (if s.ext.secondary.state = .ready then s.ext.secondary.strain else epsC) }
            else formedStrain) ∧
        t.motion = { s.motion with ceiling := t.motion.ceiling, blind := t.motion.blind } ∧
        t.result.fracArmed = old.fracArmed ∧
        t.result.prev = some { force := f, stress := y, strain := x, source := s.strain.source } ∧
        ∃ q, t.result.record = some q ∧ q.removal = (if flies then some x else r.removal) ∧
          (old.fit ≠ .isOpen → t.result.fit = old.fit ∧ t.result.n = old.n ∧ t.result.e = old.e) ∧
          (old.fit = .isOpen → y < (m.fitLower : Int) → t.result.fit = .isOpen ∧ t.result.n = old.n ∧
            t.result.sx = old.sx ∧ t.result.sy = old.sy ∧ t.result.sxy = old.sxy ∧ t.result.sxx = old.sxx) ∧
          (old.fit = .isOpen → (m.fitLower : Int) ≤ y → y ≤ (m.fitUpper : Int) → t.result.fit = .isOpen ∧
            (old.n < 8192 → t.result.n = old.n + 1 ∧ t.result.sx = old.sx + x ∧ t.result.sy = old.sy + y ∧
              t.result.sxy = old.sxy + x * y ∧ t.result.sxx = old.sxx + x * x) ∧
            (8192 ≤ old.n → t.result.n = old.n ∧ t.result.sx = old.sx ∧ t.result.sy = old.sy ∧
              t.result.sxy = old.sxy ∧ t.result.sxx = old.sxx ∧ q.flags.fitPointsCapped = true)) ∧
          (old.fit = .isOpen → (m.fitUpper : Int) < y →
            let num := (old.n : Int) * old.sxy - old.sx * old.sy
            let den := (old.n : Int) * old.sxx - old.sx * old.sx
            let e := roundDiv (10000 * num) den
            let plausible := 8 ≤ old.n ∧ 0 < den ∧ (spec.eMin : Int) ≤ e ∧ e ≤ (spec.eMax : Int)
            t.result.n = old.n ∧
            (plausible → t.result.fit = .done ∧ t.result.e = some e.toNat ∧ q.e = some e.toNat) ∧
            (¬ plausible → t.result.fit = .failed ∧ t.result.proof = .absent)) ∧
          (old.fit ≠ .isOpen → old.proof ≠ .isOpen → t.result.proof = old.proof) ∧
          ((old.fit ≠ .isOpen ∧ old.proof = .isOpen) ∨ (old.fit = .isOpen ∧ t.result.fit = .done) →
            ∀ e, t.result.e = some e →
              let offset : Int := m.proofOffset
              let now := x - elastic y e
              (now < offset → t.result.proof = .isOpen) ∧
              (offset ≤ now → t.result.proof = .found ∧
                q.flags.rpFromCrosshead = (s.strain.source == .crosshead || r.flags.rpFromCrosshead) ∧
                (old.prev = none → q.rp = some { stress := y, strain := x }) ∧
                ∀ b, old.prev = some b →
                  let past := b.strain - elastic b.stress e
                  q.rp = some (if offset ≤ past then { stress := y, strain := x } else
                    { stress := sat32 (b.stress + roundDiv ((y - b.stress) * (offset - past)) (now - past))
                      strain := sat32 (b.strain + roundDiv ((x - b.strain) * (offset - past)) (now - past)) }))) ∧
          t.result.smax = some top ∧
          (old.yield = .searching → tested → falls → t.result.yield = .plateau ∧ q.reH = some top ∧
            (old.minAll = none → t.result.minAll = some y)) ∧
          (old.yield = .searching → tested → ¬ falls → t.result.yield =
            if (m.yieldLimit : Int) < x then .none else .searching) ∧
          (old.yield = .searching → ¬ tested → t.result.yield = .searching) ∧
          (old.yield = .decided ∨ old.yield = .none → t.result.yield = old.yield) ∧
          (old.yield = .plateau → ∀ h, r.reH = some h →
            let ends := h.stress ≤ y ∨ h.strain + (m.plateauLimit : Int) < x
            (ends → t.result.yield = .decided ∧ q.ae = some (sat32 (x - h.strain)) ∧
              q.reL = (if old.minClear.isSome then old.minClear else old.minAll) ∧
              (old.minClear = none → q.flags.reLTransientOnly = true)) ∧
            (¬ ends → t.result.yield = .plateau ∧ t.result.minAll = lesser old.minAll ∧
              t.result.minClear =
                if h.strain + (m.transient : Int) < x then lesser old.minClear else old.minClear)) ∧
          (t.result.rmDecided = true ↔ old.rmDecided = true ∨ ((old.yield = .decided ∨ old.yield = .none) ∧
            1000 * f ≤ (1000 - (m.fmaxPass : Int)) * fmax)) ∧
          q.rm = sat32 (roundDiv (fmax * 100000) (spec.area : Int)) ∧ q.fmax = fmax ∧
          q.agt = t.force.strainAtFmax ∧
          q.ag = t.result.e.map (fun e => sat32 (t.force.strainAtFmax - elastic q.rm e)))

/-- O8. A good frame, in any lock state: the receiver's counts, lock, last sequence number and silence timer follow R3
to R6, R8 and R9, whatever its reading does elsewhere; the other receivers stand. That a saturated error count reports
no threshold is the model's choice (Log 50). -/
def Obligations.SensorFrameGood : Prop :=
  ∀ (n : Link) (st d2 d1 d0 sq ck : Byte) (s : State), (s.links.get n).asm = .hunting →
    frameSound st d2 d1 d0 sq ck = true → ((s.links.get n).lock = .unlocked ∨ (s.links.get n).lastSeq ≠ some sq) →
    ∃ t, exec (.sensorFrame n (sensorFrameChars st d2 d1 d0 sq ck)) s = .next t ∧
      t.links = s.links.set n ((s.links.get n).afterGood sq s.time.crystal (if n = .slr0 then 2000 else 4000))

/-- O9. A bad frame: one that fails its check, has its sensor-fault flag set or repeats a sequence number; one cut by a
stop-bit error on a later character; one cut by a gap (R2 to R6, R8, R9). The other receivers stand. That a saturated
error count reports no threshold is the model's choice (Log 50). -/
def Obligations.SensorFrameBad : Prop :=
  (∀ (n : Link) (st d2 d1 d0 sq ck : Byte) (s : State), (s.links.get n).asm = .hunting →
    (frameSound st d2 d1 d0 sq ck = false ∨
      ((s.links.get n).lock ≠ .unlocked ∧ (s.links.get n).lastSeq = some sq)) →
    ∃ t, exec (.sensorFrame n (sensorFrameChars st d2 d1 d0 sq ck)) s = .next t ∧
      t.links = s.links.set n (s.links.get n).afterBad) ∧
  (∀ (n : Link) (pre : List Byte) (b : Byte) (s : State), (s.links.get n).asm = .hunting → pre.length ≤ 5 →
    ∃ t, exec (.sensorFrame n (cleanChars (0xB4 :: pre) ++ [{ byte := b, stopErr := true }])) s = .next t ∧
      t.links = s.links.set n (s.links.get n).afterBad) ∧
  (∀ (n : Link) (bs : List Byte) (s : State), (s.links.get n).asm = .collecting bs →
    ∃ t, exec (.sensorCharGapTimeout n) s = .next t ∧ t.links = s.links.set n (s.links.get n).afterBad)

/-- O10. The silence timer expires (R6): the receiver is UNLOCKED with its consecutive-good counter at 0, the
consecutive-bad counter is cleared from LOCKED, nothing is counted. An extensometer that is the active source of a test
so loses its link with a hand-over (R60, R57): the active strain stands over the change of source, stitched onto the
reading of the next (R33), the extensometer is LOST without its zeroed mark, a secondary that is named becomes ACTIVE,
and away from the primary the strain at hand-over is recorded; there no monitor watches STRAIN, and the phase does not
end with a hand-over. SLR0's loss of LOCKED fails a tare in flight (R19) and brings the blind speed into the ceiling at
once (R71); in a test LOCK_LOSS joins the held-reason set and the test is HELD on position, or under the policy ABORT
the test is aborted with LOAD_LINK (R140, R136, R144); otherwise the Sequencer stands. The model's choices in it: a
receiver whose timer does not run stands (Log 2), and the lower limit of a strain that fits (Log 57). -/
def Obligations.SilenceExpiry : Prop :=
  ∀ (n : Link) (s : State),
    ((s.links.get n).silence ≠ none →
      ∃ t, exec (.silenceTimerExpiry n) s = .next t ∧
        t.links = s.links.set n { s.links.get n with
          lock := .unlocked, cg := 0, silence := none,
          cb := if (s.links.get n).lock = .locked then 0 else (s.links.get n).cb }) ∧
    (∀ x : ExtNo, n = extLink x → (s.links.get n).silence ≠ none → (s.links.get n).lock = .locked →
      s.store.ready = true → s.inTest = true → (s.ext.get x).state = .active → s.strain.source = extSource x →
      s.Quiet → s.NoHoldRoute → s.Unwatched .strain → s.StrainFits →
      (s.seq.phases.get s.seq.phase).exit ≠ .handoverDone →
      let next : Source := match x with | .primary => s.afterPrimary | .secondary => .crosshead
      ∃ t, exec (.silenceTimerExpiry n) s = .next t ∧
        t.strain = s.stitchedOnto next ∧ t.strain.active = s.strain.active ∧
        t.ext.get x = { s.ext.get x with state := .lost, zeroed := false, op := none } ∧
        (x = .primary → t.ext.removal = { s.ext.removal with strainAt := some s.strain.active } ∧
          t.ext.secondary = if next = .secondary then { s.ext.secondary with state := .active } else s.ext.secondary) ∧
        (x = .secondary → t.ext.removal = s.ext.removal ∧ t.ext.primary = s.ext.primary) ∧
        (∀ r, s.result.record = some r → r.closed = false → t.result.record = some { r with
          flags := { r.flags with extLost := true }
          removal := if x = .primary then some s.strain.active else r.removal }) ∧
        t.ext.removeRequest = s.ext.removeRequest ∧ t.seq = s.seq ∧ t.motion = s.motion ∧ t.loop = s.loop ∧
        t.force = s.force ∧ t.store = s.store) ∧
    (n = .slr0 → s.links.slr0.silence ≠ none → s.links.slr0.lock = .locked → s.store.ready = true → s.Quiet →
      s.NoHoldRoute →
      let top := min s.store.cal.vmax s.store.cal.blindSpeed
      let bounded : Motion := { s.motion with
        blind := true, ceiling := min top (s.seq.phases.get s.seq.phase).vmax }
      let held : HeldSet := { s.seq.held with lockLoss := true }
      ∃ t, exec (.silenceTimerExpiry n) s = .next t ∧ t.force = { s.force with tareOp := none } ∧
        t.motion.blind = true ∧ t.motion.ceiling ≤ top ∧ t.strain = s.strain ∧ t.store = s.store ∧
        (s.inTest = false → t.motion = { s.motion with blind := true, ceiling := t.motion.ceiling } ∧ t.seq = s.seq ∧
          t.ext = s.ext ∧ t.prot = s.prot ∧ t.result = s.result) ∧
        (s.motion.state = .test → s.seq.method.lockAbort = false →
          (s.seq.state = .running →
            t.seq = { s.seq with state := .held, held := held, heldSince := some s.time.crystal } ∧
            t.loop.mode = some .holdPosition ∧ t.loop.target = s.position ∧ t.loop.rate = 0 ∧ t.motion = bounded ∧
            t.ext = s.ext ∧ t.prot = s.prot ∧ t.result = s.result) ∧
          (s.seq.state = .held → t.seq = { s.seq with held := held } ∧ t.motion = bounded ∧ t.ext = s.ext ∧
            t.prot = s.prot ∧ t.result = s.result)) ∧
        (s.motion.state = .test → s.motion.lastDemand ≠ 0 → s.inTest = true → s.seq.method.lockAbort = true →
          t.seq.state = .finishing ∧ t.seq.endReason = some .abort ∧ t.seq.abortCause = some .loadLink ∧
          t.seq.held = HeldSet.empty ∧ t.seq.pendingExit = false ∧ t.seq.phaseStart = none ∧ t.loop.mode = none ∧
          t.motion.state = .stopping ∧ t.motion.dest = some .standby ∧ t.motion.ceiling = top ∧
          t.prot.latched = s.prot.latched)) ∧
    ((s.links.get n).silence = none → exec (.silenceTimerExpiry n) s = .next s)

/-- O11. A load reading (R11 to R14, R24) on a good frame of SLR0: converted under the range's calibration and the tare,
or held when the range is uncalibrated or the reading overrange; the stress of the force published; the live and latched
flags of OVERRANGE (R12) and, on the force published, of NEAR_CAPACITY (R15), the latched ones only gaining. A tare in
flight takes the untared force of a converted frame, the sixteenth sets the new tare and forms the frame's force again
with it (R18), and a frame that is not converted ends it (R19). The lower limit at which values saturate is the model's
choice (Log 57). -/
def Obligations.LoadReading : Prop :=
  ∀ (st d2 d1 d0 sq ck : Byte) (s : State), s.store.ready = true → s.links.slr0.asm = .hunting →
    frameSound st d2 d1 d0 sq ck = true → (s.links.slr0.lock = .unlocked ∨ s.links.slr0.lastSeq ≠ some sq) →
    let raw := (d2 ++ d1 ++ d0).toInt
    let c := s.store.cal.range (st.toNat % 4)
    let overrange := st.getLsbD 2 = true ∨ 8388352 ≤ raw ∨ raw ≤ -8388352
    let u := sat32 (roundDiv ((raw - c.zero) * c.gain) 1048576)
    let held := overrange ∨ c.gain = 0
    let stress := fun f : Int =>
      if s.strain.specimen.area = 0 then 0 else roundDiv (f * 100000) (s.strain.specimen.area : Int)
    ∃ t, exec (.sensorFrame .slr0 (sensorFrameChars st d2 d1 d0 sq ck)) s = .next t ∧
      (held → t.force.f = s.force.f ∧ t.force.tare = s.force.tare ∧ t.force.tareOp = none) ∧
      (¬ held → s.force.tareOp = none →
        t.force.f = sat32 (u - s.force.tare) ∧ t.force.tare = s.force.tare ∧ t.force.tareOp = none) ∧
      (∀ op, ¬ held → s.force.tareOp = some op →
        (op.count < 15 → t.force.f = sat32 (u - s.force.tare) ∧ t.force.tare = s.force.tare ∧
          t.force.tareOp = some { count := op.count + 1, sum := op.sum + u }) ∧
        (15 ≤ op.count → t.force.tare = sat32 (roundDiv (op.sum + u) 16) ∧ t.force.f = sat32 (u - t.force.tare) ∧
          t.force.tareOp = none)) ∧
      (t.force.liveOver = true ↔ overrange) ∧ (s.force.latchOver = true → t.force.latchOver = true) ∧
      (overrange → t.force.latchOver = true ∨ s.force.liveOver = true) ∧
      (t.force.latchOver = true → s.force.latchOver = true ∨ (overrange ∧ s.force.liveOver = false)) ∧
      (t.force.liveNear = true ↔ s.store.cal.fcap ≠ 0 ∧
        ((s.force.liveNear = true ∧ 900 * s.store.cal.fcap ≤ 1000 * t.force.f.natAbs) ∨
          (s.force.liveNear = false ∧ 950 * s.store.cal.fcap ≤ 1000 * t.force.f.natAbs))) ∧
      (t.force.latchNear = true ↔ s.force.latchNear = true ∨ (s.force.liveNear = false ∧ t.force.liveNear = true)) ∧
      (¬ overrange → t.force.uncal = if c.gain = 0 then some (st.toNat % 4) else none) ∧
      t.strain.stress = sat32 (stress t.force.f) ∧
      (t.strain.stressSat = true ↔ stress t.force.f ≠ sat32 (stress t.force.f)) ∧
      t.strain.specimen = s.strain.specimen ∧ t.store = s.store ∧ t.ins = s.ins

/-- O12. A load frame and the overload test (R110, R111), in every state: the condition follows the force that the frame
publishes under its range and tare (R11, R18), and one that becomes set latches OVERLOAD, ends a test, and leaves the
motion in FAULT or on its way there. And the frame of a load frame between tests: with no route that names HOLD, and a
force that does not set the condition, it changes the receiver, the force, the stress and strain, the monitors, the
overload condition, and of the motion only the ceiling and the blind-speed mark; events may leave notices, marks and
pulses. A good frame so taken keeps the source in force with its set, which the log flags then carry (R30), and
evaluates each monitor of scope ALWAYS on the values it forms, once and against its own direction, threshold, hysteresis
and re-arm (R152, R153, R154). The model's choices in it: the lower limit at which values saturate (Log 57), and that
R30 speaks of the log flags at that moment (Log 51). -/
def Obligations.LoadFrameAndOverload : Prop :=
  ∀ (st d2 d1 d0 sq ck : Byte) (s : State), s.links.slr0.asm = .hunting →
    (s.store.ready = true → frameSound st d2 d1 d0 sq ck = true →
      (s.links.slr0.lock = .unlocked ∨ s.links.slr0.lastSeq ≠ some sq) →
      ∃ t, exec (.sensorFrame .slr0 (sensorFrameChars st d2 d1 d0 sq ck)) s = .next t ∧
        let flim := s.store.cal.flim
        t.force.f = s.frameForce st d2 d1 d0 ∧
        (t.prot.overload = true ↔ (s.prot.overload = true ∧ flim ≠ 0 ∧ 9 * flim ≤ 10 * t.force.f.natAbs) ∨
          (s.prot.overload = false ∧ flim ≠ 0 ∧ flim ≤ t.force.f.natAbs)) ∧
        (s.prot.overload = false → t.prot.overload = true →
          t.prot.latched = { s.prot.latched with overload := true } ∧ t.inTest = false ∧
          (t.motion.state = .fault ∨ (t.motion.state = .stopping ∧ t.motion.dest = some .fault))) ∧
        (¬ (s.prot.overload = false ∧ t.prot.overload = true) → t.prot.latched = s.prot.latched)) ∧
    (s.Quiet → s.NoHoldRoute → s.betweenTests = true → s.NoNewOverload (s.frameForce st d2 d1 d0) →
      s.motion.state ≠ .test →
      ∃ t, exec (.sensorFrame .slr0 (sensorFrameChars st d2 d1 d0 sq ck)) s = .next t ∧
        t = { s with
          links := t.links
          force := t.force
          strain := { s.strain with
            stress := t.strain.stress, stressSat := t.strain.stressSat, epsC := t.strain.epsC,
            active := t.strain.active, setSource := t.strain.setSource }
          motion := { s.motion with ceiling := t.motion.ceiling, blind := t.motion.blind }
          prot := { s.prot with overload := t.prot.overload }
          mon := t.mon
          router := t.router
          outs := t.outs
          log := t.log
          host := { s.host with tx := t.host.tx } } ∧
        t.force.fmax = s.force.fmax ∧ t.router.routes = s.router.routes ∧
        t.log.seqNo = s.log.seqNo ∧ t.log.state = s.log.state ∧
        (s.store.ready = true → frameSound st d2 d1 d0 sq ck = true →
          (s.links.slr0.lock = .unlocked ∨ s.links.slr0.lastSeq ≠ some sq) →
          t.strain.setSource = s.strain.source ∧ t.logSource = t.strain.setSource ∧
          let formed : Quantity → Option Int := fun q => match q with
            | .force => some t.force.f
            | .stress => some t.strain.stress
            | .crossheadStrain => some t.strain.epsC
            | .strain => if s.strain.source = .crosshead then some t.strain.active else none
            | .forcePerMilleOfPeak =>
              if 0 < s.force.fmax then some (sat32 (roundDiv (t.force.f * 1000) s.force.fmax)) else none
            | .primaryStrain | .secondaryStrain | .position | .testTimeMs => none
          ∀ k, t.mon.bank.get k =
            let m := s.mon.bank.get k
            match formed m.quantity with
            | some v => if m.enable = true ∧ m.always = true then m.evaluatedAt v else m
            | none => m))

/-- O13. A reading of an extensometer (R39): an unflagged one becomes the latest raw reading, with elongation and strain
under the extensometer's zero, pitch and gauge length; an overrange one changes none of these. Outside a test, a zeroing
in flight takes the raw value of an unflagged reading, and the sixteenth sets the zero, the zeroed mark and READY and
forms that reading again (R44); an overrange one ends it (R45). Within a test, with no monitor on the strains concerned:
a reading inside the guard of the source forms the active strain (R29), and one of an ACTIVE primary is tested for slip
(R59); one that meets the guard of the active source is not passed on to it (R58): an ACTIVE primary starts a FLY
removal on a hand-over without a step (R51, R33), a primary that waits under PAUSE is handed on from and waits on, and
an ACTIVE secondary hands on to the crosshead and is REMOVED. There the arms are not open and the phase does not end
with a hand-over. The lower limit at which values saturate is the model's choice (Log 57). -/
def Obligations.ExtensometerReading : Prop :=
  ∀ (x : ExtNo) (st d2 d1 d0 sq ck : Byte) (s : State), s.store.ready = true → s.Quiet →
    (s.links.get (extLink x)).asm = .hunting → (s.links.get (extLink x)).lock = .locked →
    (s.links.get (extLink x)).lastSeq ≠ some sq → frameSound st d2 d1 d0 sq ck = true →
    let e := s.ext.get x
    let raw := (d2 ++ d1 ++ d0).toInt
    let pitch := match x with | .primary => s.store.cal.pitchPrim | .secondary => s.store.cal.pitchSec
    let l0 := match x with | .primary => s.strain.specimen.l0Prim | .secondary => s.strain.specimen.l0Sec
    let under := fun zero : Int => sat32 (roundDiv ((raw - zero) * pitch) 256)
    let read := fun (zero : Int) (e : Ext) => { e with
      raw := raw, elong := under zero, strain := if l0 = 0 then 0 else sat32 (roundDiv (under zero * 10000) (l0 : Int)) }
    let travel := match x with | .primary => s.store.cal.travelPrim | .secondary => s.store.cal.travelSec
    let margin : Int := if s.seq.method.guardMargin = 0 then roundDiv ((travel : Int) * 50) 1000
      else s.seq.method.guardMargin
    let guarded := st.getLsbD 2 = true ∨ (travel : Int) - margin ≤ raw.natAbs
    let kept := if st.getLsbD 2 = true then e else read e.zero e
    let own : Quantity := match x with | .primary => .primaryStrain | .secondary => .secondaryStrain
    let frame : Instr := .sensorFrame (extLink x) (sensorFrameChars st d2 d1 d0 sq ck)
    (s.inTest = false → s.NoHoldRoute → ∃ t, exec frame s = .next t ∧
      (st.getLsbD 2 = true → t.ext.get x = { e with op := none }) ∧
      (st.getLsbD 2 = false → e.op = none → t.ext.get x = read e.zero e) ∧
      (∀ op, st.getLsbD 2 = false → e.op = some op →
        (op.count < 15 → t.ext.get x = { read e.zero e with op := some { count := op.count + 1, sum := op.sum + raw } }) ∧
        (15 ≤ op.count →
          let zero := roundDiv (op.sum + raw) 16
          t.ext.get x = { read zero e with zero := zero, zeroed := true, state := .ready, op := none })) ∧
      t.ext = s.ext.set x (t.ext.get x) ∧ t.store = s.store ∧ t.force = s.force) ∧
    (s.inTest = true → e.op = none → ¬ guarded → (s.links.get (extLink x)).lastSeq = some (sq - 1) → s.Unwatched .strain →
      s.Unwatched own →
      let r := read e.zero e
      let tested := x = .primary ∧ e.state = .active ∧ s.seq.method.slip ≠ 0
      let higher := tested ∧ s.ext.slipM < r.strain
      let slips := tested ∧ (s.seq.method.slip : Int) < s.ext.slipM - r.strain ∧ s.ext.slipX < s.strain.epsC
      exec frame s = .next (settle { s with
        links := s.links.set (extLink x) ((s.links.get (extLink x)).afterGood sq s.time.crystal 4000)
        ext := { s.ext.set x r with
          slipM := if higher ∨ slips then r.strain else s.ext.slipM
          slipX := if higher ∨ slips then s.strain.epsC else s.ext.slipX }
        strain := if s.strain.source = extSource x then
            { s.strain with active := sat32 (r.strain + s.strain.stitch) } else s.strain
        router := { s.router with raised := if slips then [s.event 0x0340 (s.ext.slipM - r.strain)] else [] } })) ∧
    (s.inTest = true → e.op = none → guarded → s.strain.source = extSource x → s.NoHoldRoute → s.Unwatched .strain →
      s.Unwatched own → s.StrainFits → s.armsOpen = false →
      (s.seq.phases.get s.seq.phase).exit ≠ .handoverDone →
      let next : Source := match x with | .primary => s.afterPrimary | .secondary => .crosshead
      let secondary := if next = .secondary then { s.ext.secondary with state := .active } else s.ext.secondary
      (e.state = .active ∨ (x = .primary ∧ e.state = .removing ∧ s.ext.removal.mode = some .pause ∧
        s.ext.removal.strainAt = none)) →
      ∃ t, exec frame s = .next t ∧ t.strain = s.stitchedOnto next ∧ t.strain.active = s.strain.active ∧
        (x = .primary → e.state = .active →
          t.ext = { s.ext with
            primary := { kept with state := .removing }, secondary := secondary, removeRequest := true
            removal := { s.ext.removal with
              mode := some .fly, requestTime := some s.time.testTime, edges := 0
              timer := .running (s.time.testTime + s.seq.method.timeout * 1000000)
              strainAt := some s.strain.active } }) ∧
        (x = .primary → e.state = .removing →
          t.ext = { s.ext with
            primary := kept, secondary := secondary
            removal := { s.ext.removal with strainAt := some s.strain.active } }) ∧
        (x = .secondary → t.ext = { s.ext with secondary := { kept with state := .removed, zeroed := false } }) ∧
        (∀ r, s.result.record = some r → r.closed = false → t.result.record = some
          (if x = .primary then { r with removal := some s.strain.active } else r)) ∧
        t.seq = s.seq ∧ t.motion = s.motion ∧ t.loop = s.loop ∧ t.force = s.force ∧ t.store = s.store)

/-! ## Extensometer Handler and tare -/

/-- O14. A removal starts and its timer expires. A removal condition MONITOR k met in RUNNING, here by the millisecond
of test time that monitor k watches, with the arms not open and no other monitor and no phase exit in its way: PAUSE
puts the primary in REMOVING with REMOVAL in the held-reason set and keeps the source (R48); FLY hands the active strain
on without a step and runs on (R51, R33); either sets the removal record and asserts REMOVE_REQUEST. At the timer's
expiry PAUSE goes on waiting with the timer expired and REMOVE_REQUEST asserted (R50); FLY ends with kind TIMEOUT and
the primary out of the test (R52); the result record, where it is open, is flagged. The model's choices in it: the
millisecond's arrival gives the next whole millisecond of test time (Log 3), the lower limit of a strain that fits
(Log 57), and that a timer that does not run changes nothing (Log 2). -/
def Obligations.RemovalStartAndTimerExpiry : Prop :=
  ∀ s : State,
    (∀ k : Fin 8, s.Quiet → s.NoHoldRoute → s.seq.state = .running → s.time.testRunning = true →
      (s.time.msSeen + 1) * 1000 ≤ s.time.testTime → s.time.testTime ≤ 4294967295 →
      (s.mon.bank.get k).enable = true → (s.mon.bank.get k).quantity = .testTimeMs →
      (s.mon.bank.get k).state = .armed → (s.mon.bank.get k).falling = false →
      (s.mon.bank.get k).threshold ≤ s.time.msSeen + 1 → (∀ i, i ≠ k → (s.mon.bank.get i).enable = false) →
      ((s.seq.phases.get s.seq.phase).exit = .time ∨ (s.seq.phases.get s.seq.phase).exit = .fractureOnly) →
      s.ext.removal.cond = some (.monitor k) → s.ext.removal.kind = none → s.ext.primary.state = .active →
      s.strain.source = .primary → s.armsOpen = false → s.StrainFits →
      let begun := fun (mode : RemovalMode) => { s.ext.removal with
        mode := some mode, requestTime := some s.time.testTime, edges := 0,
        timer := .running (s.time.testTime + s.seq.method.timeout * 1000000) }
      (s.ext.removal.policy = .pause →
        ∃ t, exec .testTimeMsTick s = .next t ∧
          t.ext = { s.ext with
            primary := { s.ext.primary with state := .removing }, removeRequest := true, removal := begun .pause } ∧
          t.seq = { s.seq with
            state := .held, held := { s.seq.held with removal := true }, heldSince := some s.time.crystal } ∧
          t.loop.mode = some .holdPosition ∧ t.strain = s.strain ∧ t.motion = s.motion ∧ t.store = s.store) ∧
      (s.ext.removal.policy = .fly →
        ∃ t, exec .testTimeMsTick s = .next t ∧
          t.ext = { s.ext with
            primary := { s.ext.primary with state := .removing }, removeRequest := true
            secondary := if s.afterPrimary = .secondary then { s.ext.secondary with state := .active }
              else s.ext.secondary
            removal := { begun .fly with strainAt := some s.strain.active } } ∧
          t.strain = s.stitchedOnto s.afterPrimary ∧ t.strain.active = s.strain.active ∧
          (∀ r, s.result.record = some r → r.closed = false →
            t.result.record = some { r with removal := some s.strain.active }) ∧
          t.seq = s.seq ∧ t.loop = s.loop ∧ t.motion = s.motion ∧ t.store = s.store)) ∧
    (∀ due, s.ext.removal.timer = .running due → s.ext.removal.requestTime ≠ none → s.ext.removal.kind = none →
      s.Quiet → s.NoHoldRoute → s.ext.removal.mode = some .pause →
      ∃ t, exec .removalTimerExpiry s = .next t ∧
        t = { s with
          ext := { s.ext with removal := { s.ext.removal with timer := .expired } }
          result := t.result, router := t.router, outs := t.outs, log := t.log, host := t.host } ∧
        (∀ r, s.result.record = some r → r.closed = false →
          t.result.record = some { r with flags := { r.flags with removalTimeout := true } })) ∧
    (∀ due, s.ext.removal.timer = .running due → s.ext.removal.requestTime ≠ none → s.ext.removal.kind = none →
      s.Quiet → s.NoHoldRoute → s.ext.removal.mode = some .fly →
      ∃ t, exec .removalTimerExpiry s = .next t ∧
        t = { s with
          ext := { s.ext with
            removeRequest := false
            removal := { s.ext.removal with timer := .expired, kind := some .timeout }
            primary := if s.ext.primary.state = .lost then s.ext.primary
              else { s.ext.primary with state := .removed, zeroed := false } }
          result := t.result, router := t.router, outs := t.outs, log := t.log, host := t.host } ∧
        (∀ r, s.result.record = some r → r.closed = false →
          t.result.record = some { r with flags := { r.flags with removalTimeout := true } })) ∧
    ((s.ext.removal.timer = .stopped ∨ s.ext.removal.timer = .expired) →
      exec .removalTimerExpiry s = .next s)

/-- O15. EXT_CONFIRM (R53, R49, R52): with a removal in flight it is accepted, the kind becomes HOST_CONFIRM, the timer
stops, REMOVE_REQUEST is deasserted, REMOVAL leaves the held-reason set, and the primary is REMOVED without its zeroed
mark unless it is LOST; with none it is refused. A test has at most one removal (R46), so no exit or firing of the
confirmation starts another. In a test, with no HOLD route: the confirmation of a PAUSE removal that has not handed on yet
orders the hand-over away from the primary (R49, R57), which leaves the active strain without a step (R33), makes a named
secondary ACTIVE and records the strain at hand-over; there no monitor watches STRAIN, and the phase does not end with
that hand-over. A test HELD for the removal alone, with no pending exit, then resumes (07 R139) with the loop rebased on
its phase (05 R102), and one held for other reasons too stays HELD; the confirmation of a FLY removal leaves the strain,
the Sequencer and the loop alone (R52). The model's choices in it: the lower limit of a strain that fits (Log 57), the
loop's last measured value, updated at its rebase (Log 36), and HELD's entry time, none once the test resumes (Log 61). -/
def Obligations.ExtConfirm : Prop :=
  ∀ (tag : Byte) (s : State), s.Receptive →
    (s.ext.removal.mode ≠ none → s.ext.removal.requestTime ≠ none → s.ext.removal.kind = none →
      ∃ t, exec (.extConfirm tag []) s = .next t ∧
        t.host.replies = s.host.replies ++ [{ kind := 0xAF, tag := tag, payload := [] }] ∧
        t.ext.removal.kind = some .hostConfirm ∧ t.ext.removal.timer = .stopped ∧ t.ext.removeRequest = false ∧
        (s.ext.removal.mode = some .pause → t.seq.held.removal = false) ∧
        (s.ext.primary.state ≠ .lost → t.ext.primary.state = .removed ∧ t.ext.primary.zeroed = false) ∧
        (s.ext.primary.state = .lost → t.ext.primary.state = .lost) ∧ t.store = s.store ∧ t.links = s.links) ∧
    (s.ext.removal.mode = some .pause → s.ext.removal.requestTime ≠ none → s.ext.removal.kind = none → s.inTest = true →
      s.NoHoldRoute →
      (s.ext.removal.strainAt = none → s.strain.source = .primary ∧ s.Unwatched .strain ∧ s.StrainFits ∧
        ((s.seq.phases.get s.seq.phase).exit ≠ .handoverDone ∨ s.ext.secondary.state = .ready)) →
      (s.seq.pendingExit = false ∨ { s.seq.held with removal := false } ≠ HeldSet.empty) →
      let hands := s.ext.removal.strainAt = none
      let phase := s.seq.phases.get s.seq.phase
      let held : HeldSet := { s.seq.held with removal := false }
      let measured := match phase.mode with
        | .positionRate | .holdPosition => s.position
        | .stressRate => s.strain.stress
        | .strainRate => s.strain.active
      ∃ t, exec (.extConfirm tag []) s = .next t ∧
        t.strain = (if hands then s.stitchedOnto s.afterPrimary else s.strain) ∧ t.strain.active = s.strain.active ∧
        t.ext = { s.ext with
          primary := if s.ext.primary.state = .lost then s.ext.primary
            else { s.ext.primary with state := .removed, zeroed := false }
          secondary := if hands ∧ s.ext.secondary.state = .ready then { s.ext.secondary with state := .active }
            else s.ext.secondary
          removal := { s.ext.removal with
            timer := .stopped, kind := some .hostConfirm
            strainAt := if hands then some s.strain.active else s.ext.removal.strainAt }
          removeRequest := false } ∧
        (∀ r, s.result.record = some r → r.closed = false → t.result = { s.result with record := some { r with
          removal := if hands then some s.strain.active else r.removal } }) ∧
        (s.seq.state = .held → held = HeldSet.empty →
          t.seq = { s.seq with state := .running, held := held, heldSince := none } ∧
          t.loop = { s.loop with
            mode := some phase.mode, rate := if phase.mode = .holdPosition then 0 else phase.rate
            acc := 2000 * measured, target := measured, meas := measured, integ := 0, prev := 0 } ∧
          t.motion = s.motion ∧ t.force = s.force) ∧
        (s.seq.state = .held → held ≠ HeldSet.empty →
          t.seq = { s.seq with held := held } ∧ t.loop = s.loop ∧ t.motion = s.motion ∧ t.force = s.force)) ∧
    (s.ext.removal.mode = some .fly → s.ext.removal.requestTime ≠ none → s.ext.removal.kind = none → s.NoHoldRoute →
      ∃ t, exec (.extConfirm tag []) s = .next t ∧ t.strain = s.strain ∧ t.seq = s.seq ∧ t.loop = s.loop ∧
        t.motion = s.motion ∧ t.force = s.force ∧ t.result = s.result ∧
        t.ext.removal = { s.ext.removal with timer := .stopped, kind := some .hostConfirm } ∧
        t.ext.secondary = s.ext.secondary) ∧
    ((s.ext.removal.mode = none ∨ s.ext.removal.requestTime = none ∨ s.ext.removal.kind ≠ none) →
      exec (.extConfirm tag []) s = .next (replied 0x2F tag (.error .wrongState) s))

/-- O16. TARE (R17) and ZERO_EXT (R43): their checks in order, and the operation put in flight with count and sum 0. -/
def Obligations.TareAndZeroExt : Prop :=
  ∀ (tag : Byte) (s : State), s.Receptive →
    (exec (.tare tag []) s = .next (
      if ¬ (s.seq.state = .idle ∨ s.seq.state = .complete ∨ s.seq.state = .aborted) then
        replied 0x18 tag (.error .wrongState) s
      else if s.store.calValid = false then replied 0x18 tag (.error .calInvalid) s
      else if s.links.slr0.lock ≠ .locked then replied 0x18 tag (.error .loadUnlocked) s
      else if s.force.tareOp ≠ none then replied 0x18 tag (.error .busy) s
      else replied 0x18 tag (.ok []) { s with force := { s.force with tareOp := some { count := 0, sum := 0 } } })) ∧
    (∀ b : Byte,
      let x : ExtNo := if b = 1 then .primary else .secondary
      exec (.zeroExt tag [b]) s = .next (
        if ¬ (b = 1 ∨ b = 2) then replied 0x19 tag (.error .badValue) s
        else if s.seq.state ≠ .idle then replied 0x19 tag (.error .wrongState) s
        else if (s.links.get (extLink x)).lock ≠ .locked then replied 0x19 tag (.error .extNotReady) s
        else if b = 1 ∧ s.armsOpen = true then replied 0x19 tag (.error .armsOpen) s
        else if (s.ext.get x).op ≠ none then replied 0x19 tag (.error .busy) s
        else replied 0x19 tag (.ok [])
          { s with ext := s.ext.set x { s.ext.get x with op := some { count := 0, sum := 0 } } }))

/-! ## Motion -/

/-- O17. The encoder pair takes new levels (R25), in every state: forward along 00, 10, 11, 01 counts up, backward
counts down, both phases together count an encoder error, no change counts nothing; nothing else changes. -/
def Obligations.EncoderTransition : Prop :=
  ∀ (a b : Bool) (s : State),
    let old := (s.motion.encA, s.motion.encB)
    let cycle := [((false, false), (true, false)), ((true, false), (true, true)), ((true, true), (false, true)),
      ((false, true), (false, false))]
    let m := { s.motion with encA := a, encB := b }
    exec (.encoderTransition a b) s = .next { s with motion :=
      if (old, (a, b)) ∈ cycle then { m with encCount := min 2147483647 (max (-2147483648) (s.motion.encCount + 1)) }
      else if ((a, b), old) ∈ cycle then
        { m with encCount := min 2147483647 (max (-2147483648) (s.motion.encCount - 1)) }
      else if old = (a, b) then m
      else { m with encErrors := min 4294967295 (s.motion.encErrors + 1) } }

/-- O18. The word of a control period at rest and at the end of a stop. In OFF, STANDBY, RETRY_WAIT and FAULT the word
carries 0 (R68, R69). In STOPPING with the demand within one stop step of 0 (R80), the word carries 0 and the state is
the destination, STANDBY where it is so or none; no route names HOLD. Before that each word of the stop carries the
demand moved toward 0 by one stop step, and the stop goes on to the destination it has. A test in FINISHING so ends
(R146): ABORTED for the end reason ABORT and else COMPLETE, REMOVE_REQUEST deasserted, the record closed with the end
reason, the cause and the values of the peak (R181, R176), the test time stopped, and the log stopped where it ran. The
model's choices in it: the lower limit at which values saturate (Log 57), and the word of a demand outside 24 bits, its
low 24 (Log 64). -/
def Obligations.ControlPeriodEndsAtRest : Prop :=
  (∀ s : State, (s.motion.state = .off ∨ s.motion.state = .standby ∨ s.motion.state = .retryWait ∨
      s.motion.state = .fault) →
    ∃ t, exec .controlPeriod s = .next t ∧ t.motion.lastDemand = 0 ∧ t.motion.lastWord = [0x5A, 0, 0, 0] ∧
      t.motion.sign = s.motion.sign ∧ t.motion.zeroRun = min 65535 (s.motion.zeroRun + 1) ∧
      t.motion.dwell = false ∧ t.motion.encCount = s.motion.encCount ∧
      t.motion.periodDue = s.motion.periodDue + 500 ∧ t.store = s.store ∧ t.links = s.links ∧ t.force = s.force) ∧
  (∀ s : State, s.motion.state = .stopping → s.inTest = false → s.NoHoldRoute → s.Quiet → s.motion.driveEn = true →
    s.estopClosed = true → s.limitPos = false → s.limitNeg = false →
    let sent := s.sentFor (movedToward s.motion.lastDemand 0 s.stopStep)
    sent ≠ 0 →
    ∃ t, exec .controlPeriod s = .next t ∧ t.motion = { s.motion with
        lastDemand := sent, lastWord := demandWord sent, sign := some (decide (0 < sent)), zeroRun := 0, dwell := false
        periodDue := s.motion.periodDue + 500 } ∧
      t.seq = s.seq ∧ t.ext = s.ext ∧ t.result = s.result ∧ t.prot = s.prot ∧ t.loop = s.loop ∧ t.store = s.store ∧
      t.links = s.links ∧ t.force = s.force ∧ t.strain = s.strain) ∧
  (∀ s : State, s.motion.state = .stopping → s.inTest = false → s.NoHoldRoute → s.Quiet →
    s.motion.lastDemand.natAbs ≤ max 1 (roundDiv s.store.cal.stopDecel 2000).toNat →
    ∃ t, exec .controlPeriod s = .next t ∧ t.motion.lastDemand = 0 ∧ t.motion.lastWord = [0x5A, 0, 0, 0] ∧
      t.motion.state = (match s.motion.dest with | some .off => .off | some .fault => .fault | _ => .standby) ∧
      t.prot.latched = s.prot.latched ∧
      (s.seq.state ≠ .finishing → t.seq = s.seq ∧ t.ext = s.ext ∧ t.result = s.result ∧ t.time = s.time) ∧
      (s.seq.state = .finishing →
        t.seq = { s.seq with state := if s.seq.endReason = some .abort then .aborted else .complete } ∧
        t.ext = { s.ext with removeRequest := false } ∧ t.time = { s.time with testRunning := false } ∧
        (s.log.state = .running → t.log.state = .stopped ∧ t.log.due = none) ∧
        let rm := sat32 (roundDiv (s.force.fmax * 100000) (s.strain.specimen.area : Int))
        (∀ r, s.result.record = some r → r.closed = false → t.result.record = some { r with
          closed := true, endReason := s.seq.endReason
          abortCause := if s.seq.endReason = some .abort then s.seq.abortCause else none
          rm := rm, fmax := s.force.fmax, agt := s.force.strainAtFmax
          ag := s.result.e.map (fun e => sat32 (s.force.strainAtFmax - roundDiv (rm * 10000) (e : Int))) })))

/-- O19. The word of a control period in JOG, MOVE and TEST, with the drive enabled and no switch and no soft limit met:
the candidate of the state, held within the ceiling and by the dwell (R69, R72). A jog moves the demand toward the
lesser of the ceiling and its speed, in its direction, by at most one period of amax (R77). A move goes toward the
lesser of the ceiling and the braking speed; the reference advances by what is sent, and a head that has ended leaves
the queue to the next (R75, R76, R73). In TEST the Rate Loop forms its target, error, terms and raw demand, and moves
the previous demand toward the raw one (R89 to R99); there no monitor watches POSITION. That a move with a remaining
distance of 0 goes on while what is sent carries X 2,000 or more from T (Log 55), the lower limit at which values
saturate (Log 57), and the word of a demand outside 24 bits, its low 24 (Log 64), are the model's choices. -/
def Obligations.ControlPeriodProfiles : Prop :=
  ∀ s : State, s.RunsFree →
    (∀ j : Jog, s.motion.state = .jog → s.motion.jog = some j → s.inTest = false →
      let top : Int := min s.motion.ceiling j.speed
      let sent := s.sentFor (movedToward s.motion.lastDemand (if j.positive then top else -top) s.accelStep)
      ∃ t, exec .controlPeriod s = .next t ∧ t.motion.lastDemand = sent ∧ t.motion.lastWord = demandWord sent ∧
        t.motion.state = .jog ∧ t.motion.jog = some j ∧ t.motion.queue = s.motion.queue ∧
        t.motion.encCount = s.motion.encCount ∧ t.loop = s.loop ∧ t.prot = s.prot ∧ t.seq = s.seq ∧ t.ext = s.ext ∧
        t.force = s.force ∧ t.strain = s.strain ∧ t.store = s.store ∧ t.links = s.links) ∧
    (∀ (seg : Segment) (rest : List Segment) (brake : Nat), s.motion.state = .move → s.inTest = false →
      s.motion.queue = seg :: rest → seg.started = true →
      let goal := 2000 * seg.target
      let left := goal - s.motion.refX
      brake * brake * 1000 ≤ s.store.cal.amax * left.natAbs →
      s.store.cal.amax * left.natAbs < (brake + 1) * (brake + 1) * 1000 →
      let top : Int := min s.motion.ceiling brake
      let wanted := if 0 < left then top else if left < 0 then -top else 0
      let sent := s.sentFor (movedToward s.motion.lastDemand wanted s.accelStep)
      let x := s.motion.refX + sent
      let ended := (goal - x).natAbs < 2000 ∨ (0 < left ∧ goal ≤ x) ∨ (left < 0 ∧ x ≤ goal)
      ∃ t, exec .controlPeriod s = .next t ∧ t.motion.lastDemand = sent ∧ t.motion.lastWord = demandWord sent ∧
        (¬ ended → t.motion.state = .move ∧ t.motion.queue = s.motion.queue ∧ t.motion.refX = x) ∧
        (ended → (rest = [] ∨ ∃ next more, rest = next :: more ∧ next.trigger ≠ 0) →
          t.motion.state = .standby ∧ t.motion.queue = rest ∧ t.motion.refX = goal ∧ t.prot.episode = none) ∧
        (ended → ∀ next more, rest = next :: more → next.trigger = 0 →
          t.motion.state = .move ∧ t.motion.queue = { next with started := true } :: more ∧
          t.motion.refX = 2000 * s.position ∧ t.prot.episode = none) ∧
        t.motion.encCount = s.motion.encCount ∧ t.loop = s.loop ∧ t.prot.latched = s.prot.latched ∧ t.seq = s.seq ∧
        t.ext = s.ext ∧ t.force = s.force ∧ t.strain = s.strain ∧ t.store = s.store ∧ t.links = s.links) ∧
    (∀ m : Mode, s.motion.state = .test → s.inTest = true → s.loop.mode = some m → s.Unwatched .position →
      let rate := if m = .holdPosition then 0 else s.loop.rate
      let gains := match m with
        | .stressRate => s.loop.gStress | .strainRate => s.loop.gStrain | .positionRate | .holdPosition => s.loop.gPos
      let meas := match m with
        | .stressRate => s.strain.stress | .strainRate => s.strain.active | .positionRate | .holdPosition => s.position
      let forward := match m with
        | .positionRate => rate
        | .strainRate => roundDiv (rate * (s.strain.specimen.lc : Int)) 10000
        | .stressRate | .holdPosition => 0
      let acc := sat64 (s.loop.acc + rate)
      let target := sat32 (roundDiv acc 2000)
      let err := sat32 (target - meas)
      let pTerm := roundDiv ((gains.kp : Int) * err) 65536
      let integ := if s.motion.dwell = true then s.loop.integ
        else max (-(s.motion.ceiling : Int)) (min (s.motion.ceiling : Int)
          (s.loop.integ + roundDiv ((gains.ki : Int) * err) 65536))
      let raw := forward + pTerm + integ
      let sent := s.sentFor (movedToward s.loop.prev raw s.accelStep)
      ∃ t, exec .controlPeriod s = .next t ∧ t.motion.lastDemand = sent ∧ t.motion.lastWord = demandWord sent ∧
        t.motion.state = .test ∧
        t.loop = { s.loop with
          acc := acc, target := target, meas := meas, err := err, pTerm := pTerm, integ := integ, raw := raw
          prev := sent } ∧
        t.motion.encCount = s.motion.encCount ∧ t.prot = s.prot ∧ t.seq = s.seq ∧ t.ext = s.ext ∧
        t.force = s.force ∧ t.strain = s.strain ∧ t.store = s.store ∧ t.links = s.links)

/-- O20. Every word, in every state (R65, R68, R69, R72): with DRIVE_EN low, as it is while ESTOP reads open and in OFF,
RETRY_WAIT and FAULT, it carries 0; a non-zero word against the sign of the last non-zero demand is sent only after the
dwell's zero run; where no soft limit is met its magnitude is at most the ceiling (R69 step 3, R70), and where one is,
the stop that it enters forms the ceiling again, at most the machine vmax. A soft limit that is met in MOVE, JOG and
TEST enters a controlled stop toward STANDBY, with the queue and the jog record gone, whose first step the word is; in a
test it is aborted with TRAVEL_LIMIT (R83, R80, R144). With a limit switch asserted no demand toward it stands after a
word: one that a jog sends toward it is sent and meets the overtravel test (R117), which latches the side met, with the
drive off and the motion in FAULT. The model's choices in it: the word of a demand outside 24 bits, its low 24 (Log 64);
and in TEST a monitor of POSITION is evaluated after the word (Log 10), so one that meets the phase's exit changes
neither the ceiling that the word keeps to nor the stop that a soft limit enters. -/
def Obligations.DemandObeysDwellAndCeiling : Prop :=
  ∀ s : State, ∃ t, exec .controlPeriod s = .next t ∧
    (s.motion.driveEn = false → (s.estopClosed = false ∨ s.motion.state = .off ∨ s.motion.state = .retryWait ∨
        s.motion.state = .fault) → t.motion.lastDemand = 0) ∧
    (∀ positive, s.motion.sign = some positive → t.motion.lastDemand ≠ 0 →
      decide (0 < t.motion.lastDemand) = positive ∨ 2 * s.store.cal.dwellMs ≤ s.motion.zeroRun) ∧
    ((s.upperMet = false ∧ s.lowerMet = false) ∨
        (s.motion.state ≠ .move ∧ s.motion.state ≠ .jog ∧ s.motion.state ≠ .test) →
      t.motion.lastDemand.natAbs ≤ s.motion.ceiling) ∧
    ((s.upperMet = true ∨ s.lowerMet = true) →
      (s.motion.state = .move ∨ s.motion.state = .jog ∨ s.motion.state = .test) →
      t.motion.lastDemand.natAbs ≤ s.store.cal.vmax) ∧
    ((s.upperMet = true ∨ s.lowerMet = true) →
      (s.motion.state = .move ∨ s.motion.state = .jog ∨ s.motion.state = .test) →
      t.motion.queue = [] ∧ t.motion.jog = none ∧
      (t.motion.state = .stopping ∨ t.motion.state = .standby ∨ t.motion.state = .fault) ∧
      (s.motion.state = .test → s.inTest = true →
        t.inTest = false ∧ t.seq.endReason = some .abort ∧ t.seq.abortCause = some .travelLimit) ∧
      (s.motion.driveEn = true → s.estopClosed = true → s.limitPos = false → s.limitNeg = false → s.Quiet →
        s.NoHoldRoute → (s.motion.state = .test ↔ s.inTest = true) →
        let blind := s.links.slr0.lock ≠ .locked ∨ s.store.calValid = false
        let top := if blind then min s.store.cal.vmax s.store.cal.blindSpeed else s.store.cal.vmax
        let sent := { s with motion := { s.motion with ceiling := top } }.sentFor
          (movedToward s.motion.lastDemand 0 s.stopStep)
        sent ≠ 0 → t.motion.lastDemand = sent ∧ t.motion.lastWord = demandWord sent ∧ t.motion.state = .stopping ∧
          t.motion.dest = some .standby ∧ t.motion.driveEn = true ∧ t.prot.latched = s.prot.latched ∧
          (s.inTest = false → t.seq = s.seq ∧ t.ext = s.ext ∧ t.result = s.result) ∧
          (s.inTest = true → t.seq.state = .finishing ∧ t.seq.held = HeldSet.empty ∧ t.loop.mode = none))) ∧
    (s.limitPos = true → t.motion.lastDemand ≤ 0) ∧ (s.limitNeg = true → 0 ≤ t.motion.lastDemand) ∧
    (∀ j : Jog, s.motion.state = .jog → s.motion.jog = some j → s.inTest = false → s.motion.driveEn = true →
      s.estopClosed = true → s.upperMet = false → s.lowerMet = false → s.Quiet → s.NoHoldRoute →
      let top : Int := min s.motion.ceiling j.speed
      let sent := s.sentFor (movedToward s.motion.lastDemand (if j.positive then top else -top) s.accelStep)
      ((s.limitPos = true ∧ 0 < sent) ∨ (s.limitNeg = true ∧ sent < 0)) →
      t.motion.lastWord = demandWord sent ∧ t.motion.lastDemand = 0 ∧ t.motion.state = .fault ∧
        t.motion.driveEn = false ∧ t.motion.queue = [] ∧ t.motion.jog = none ∧
        t.prot.latched = (if 0 < sent then { s.prot.latched with overPos := true }
          else { s.prot.latched with overNeg := true }))

/-- O21. The jog keepalive expires (R78): the jog record is cleared. In JOG a demand of 0 leaves the motion in STANDBY
at once and another starts a controlled stop; in RETRY_WAIT the state stays. That the expiry of a timer that does not
run changes nothing is the model's choice (Log 2). -/
def Obligations.JogKeepaliveExpiry : Prop :=
  ∀ s : State, s.Quiet → s.NoHoldRoute →
    (s.motion.keepalive ≠ none → s.motion.state = .jog → s.seq.state ≠ .finishing →
      ∃ t, exec .jogKeepaliveExpiry s = .next t ∧ t.motion.jog = none ∧ t.motion.keepalive = none ∧
        t.motion.queue = [] ∧
        t.motion.state = (if s.motion.lastDemand = 0 then .standby else .stopping) ∧
        t.motion.dest = (if s.motion.lastDemand = 0 then none else some .standby) ∧
        t.prot.episode = none ∧ t.prot.offTime = none ∧ t.prot.latched = s.prot.latched ∧ t.seq = s.seq ∧
        t.ext = s.ext ∧ t.store = s.store ∧ t.links = s.links) ∧
    (s.motion.keepalive ≠ none → s.motion.state = .retryWait →
      ∃ t, exec .jogKeepaliveExpiry s = .next t ∧
        t.motion = { s.motion with jog := none, keepalive := none, ceiling := t.motion.ceiling } ∧
        t.prot = s.prot ∧ t.seq = s.seq ∧ t.ext = s.ext ∧ t.store = s.store ∧ t.links = s.links) ∧
    (s.motion.keepalive = none → exec .jogKeepaliveExpiry s = .next s)

/-- O22. ENABLE (R66), DISABLE (R67) and STOP (R79) by motion state. The queue is emptied and the jog record cleared
where the rules say so. In MOVE and JOG a controlled stop is entered, which at a demand of 0 ends as it is entered
(R80); in STANDBY and RETRY_WAIT a DISABLE, and in RETRY_WAIT a STOP, leave the motion OFF. -/
def Obligations.EnableDisableStop : Prop :=
  ∀ (tag : Byte) (s : State), s.Receptive →
    (s.estopClosed = false → exec (.enable tag []) s = .next (replied 0x20 tag (.error .estopOpen) s)) ∧
    (s.estopClosed = true → s.prot.latched ≠ FaultSet.empty →
      exec (.enable tag []) s = .next (replied 0x20 tag (.error .faultLatched) s)) ∧
    (s.estopClosed = true → s.prot.latched = FaultSet.empty → s.motion.state = .standby →
      exec (.enable tag []) s = .next (replied 0x20 tag (.ok []) s)) ∧
    (s.estopClosed = true → s.prot.latched = FaultSet.empty → s.motion.state ≠ .off → s.motion.state ≠ .standby →
      exec (.enable tag []) s = .next (replied 0x20 tag (.error .wrongState) s)) ∧
    (s.estopClosed = true → s.prot.latched = FaultSet.empty → s.motion.state = .off →
      ∃ t, exec (.enable tag []) s = .next (replied 0x20 tag (.ok []) t) ∧
        t = { s with
          motion := { s.motion with
            state := .standby, driveEn := true, dest := none,
            ceiling := if s.links.slr0.lock ≠ .locked ∨ s.store.calValid = false then
              min s.store.cal.vmax s.store.cal.blindSpeed else s.store.cal.vmax }
          prot := { s.prot with blanking := t.prot.blanking, episode := none, offTime := none } } ∧
        (s.driveFaultIn = false → t.prot.blanking = none) ∧
        (s.driveFaultIn = true → s.motion.driveEn = false →
          t.prot.blanking = some (s.time.crystal + s.store.cal.blankingMs * 1000))) ∧
    ((s.motion.state = .off ∨ s.motion.state = .fault) →
      exec (.disable tag []) s = .next (replied 0x21 tag (.ok []) s) ∧
      exec (.stop tag []) s = .next (replied 0x24 tag (.ok []) s)) ∧
    (s.motion.state = .test →
      exec (.disable tag []) s = .next (replied 0x21 tag (.error .wrongState) s) ∧
      exec (.stop tag []) s = .next (replied 0x24 tag (.error .wrongState) s)) ∧
    (s.motion.state = .standby →
      exec (.stop tag []) s = .next (replied 0x24 tag (.ok [])
        { s with motion := { s.motion with queue := [], jog := none, keepalive := none } })) ∧
    (s.motion.state = .stopping →
      exec (.stop tag []) s = .next (replied 0x24 tag (.ok []) s) ∧
      exec (.disable tag []) s = .next (replied 0x21 tag (.ok [])
        { s with motion := { s.motion with dest := if s.motion.dest = some .fault then some .fault else some .off } })) ∧
    ((s.motion.state = .standby ∨ s.motion.state = .retryWait) →
      ∃ t, exec (.disable tag []) s = .next t ∧ t.motion.state = .off ∧ t.motion.driveEn = false ∧
        t.motion.lastDemand = 0 ∧ t.motion.queue = [] ∧ t.motion.jog = none ∧ t.prot.episode = none ∧
        t.prot.latched = s.prot.latched ∧ t.seq = s.seq ∧ t.store = s.store ∧
        t.host.replies = s.host.replies ++ [{ kind := 0xA1, tag := tag, payload := [] }]) ∧
    (s.motion.state = .retryWait →
      ∃ t, exec (.stop tag []) s = .next t ∧ t.motion.state = .off ∧ t.motion.driveEn = false ∧
        t.motion.lastDemand = 0 ∧ t.motion.queue = [] ∧ t.motion.jog = none ∧ t.prot.episode = none ∧
        t.prot.latched = s.prot.latched ∧ t.seq = s.seq ∧ t.store = s.store ∧
        t.host.replies = s.host.replies ++ [{ kind := 0xA4, tag := tag, payload := [] }]) ∧
    ((s.motion.state = .move ∨ s.motion.state = .jog) → s.motion.lastDemand = 0 → s.seq.state ≠ .finishing →
      (∃ t, exec (.disable tag []) s = .next t ∧ t.motion.state = .off ∧ t.motion.driveEn = false ∧
        t.motion.queue = [] ∧ t.motion.jog = none ∧ t.prot.episode = none ∧ t.seq = s.seq ∧ t.store = s.store ∧
        t.host.replies = s.host.replies ++ [{ kind := 0xA1, tag := tag, payload := [] }]) ∧
      (∃ t, exec (.stop tag []) s = .next t ∧ t.motion.state = .standby ∧ t.motion.driveEn = s.estopClosed ∧
        t.motion.lastDemand = 0 ∧ t.motion.queue = [] ∧ t.motion.jog = none ∧ t.prot.episode = none ∧ t.seq = s.seq ∧
        t.store = s.store ∧ t.host.replies = s.host.replies ++ [{ kind := 0xA4, tag := tag, payload := [] }])) ∧
    ((s.motion.state = .move ∨ s.motion.state = .jog) → s.motion.lastDemand ≠ 0 →
      (∃ t, exec (.disable tag []) s = .next t ∧ t.motion.state = .stopping ∧ t.motion.dest = some .off ∧
        t.motion.queue = [] ∧ t.motion.jog = none ∧ t.seq = s.seq ∧ t.store = s.store ∧
        t.host.replies = s.host.replies ++ [{ kind := 0xA1, tag := tag, payload := [] }]) ∧
      (∃ t, exec (.stop tag []) s = .next t ∧ t.motion.state = .stopping ∧ t.motion.dest = some .standby ∧
        t.motion.queue = [] ∧ t.motion.jog = none ∧ t.seq = s.seq ∧ t.store = s.store ∧
        t.host.replies = s.host.replies ++ [{ kind := 0xA4, tag := tag, payload := [] }]))

/-- O23. MOVE (R74, R73, 06 R118): the checks in their order, and the segment at the tail with its speed clamped to
vmax. The first IMMEDIATE segment of a queue empty in STANDBY begins at once: started, X = 2,000 × P, state MOVE. The
model's choices in it: the bytes of the acceptance, with the started mark and a length of 4 bytes (Log 44), and a speed
read unsigned (Log 22). -/
def Obligations.MoveRequest : Prop :=
  ∀ (tag : Byte) (p : List Byte) (s : State), s.Receptive → p.length = 9 →
    let target := fieldS p 0 4
    let speed := fieldU p 4 4
    let trigger := fieldU p 8 1
    let no := fun r => Host.Outcome.next (replied 0x22 tag (.error r) s)
    let seg : Segment := { target := target, speed := min speed s.store.cal.vmax, trigger := trigger, started := false }
    (speed = 0 ∨ 15 < trigger → exec (.move tag p) s = no .badValue) ∧
    (speed ≠ 0 → trigger ≤ 15 → s.betweenTests = false → exec (.move tag p) s = no .wrongState) ∧
    (speed ≠ 0 → trigger ≤ 15 → s.betweenTests = true → s.prot.latched ≠ FaultSet.empty →
      exec (.move tag p) s = no .faultLatched) ∧
    (speed ≠ 0 → trigger ≤ 15 → s.betweenTests = true → s.prot.latched = FaultSet.empty →
      s.motion.state ≠ .standby → s.motion.state ≠ .move → s.motion.suspendsMove = false →
      exec (.move tag p) s = no .wrongState) ∧
    (speed ≠ 0 → trigger ≤ 15 → s.betweenTests = true → s.prot.latched = FaultSet.empty →
      (s.motion.state = .standby ∨ s.motion.state = .move ∨ s.motion.suspendsMove = true) →
      (s.withinTravel target = false ∨ (s.limitPos = true ∧ s.position < target) ∨
        (s.limitNeg = true ∧ target < s.position)) →
      exec (.move tag p) s = no .outsideTravel) ∧
    (speed ≠ 0 → trigger ≤ 15 → s.betweenTests = true → s.prot.latched = FaultSet.empty →
      (s.motion.state = .standby ∨ s.motion.state = .move ∨ s.motion.suspendsMove = true) →
      s.withinTravel target = true → (s.limitPos = true → target ≤ s.position) →
      (s.limitNeg = true → s.position ≤ target) → 8 ≤ s.motion.queue.length →
      exec (.move tag p) s = no .queueFull) ∧
    (speed ≠ 0 → trigger ≤ 15 → s.betweenTests = true → s.prot.latched = FaultSet.empty →
      (s.motion.state = .standby ∨ s.motion.state = .move ∨ s.motion.suspendsMove = true) →
      s.withinTravel target = true → (s.limitPos = true → target ≤ s.position) →
      (s.limitNeg = true → s.position ≤ target) → s.motion.queue.length < 8 →
      (s.motion.state = .standby ∧ s.motion.queue = [] ∧ trigger = 0 →
        ∃ t, exec (.move tag p) s = .next t ∧ t.motion.state = .move ∧
          t.motion.queue = [{ seg with started := true }] ∧ t.motion.refX = 2000 * s.position ∧
          t.host.replies = s.host.replies ++ [replyOf 0x22 tag (.ok (segmentBytes { seg with started := true } ++ b4 1))] ∧
          t.seq = s.seq ∧ t.store = s.store ∧ t.ext = s.ext) ∧
      (¬ (s.motion.state = .standby ∧ s.motion.queue = [] ∧ trigger = 0) →
        exec (.move tag p) s = .next (replied 0x22 tag
          (.ok (segmentBytes seg ++ b4 (s.motion.queue.length + 1)))
          { s with motion := { s.motion with queue := s.motion.queue ++ [seg] } })))

/-- O24. JOG (R77, R78, 06 R118): refusals in their order, and an accepted jog: from STANDBY the state is JOG with the
record and a fresh keepalive; in JOG and in RETRY_WAIT suspending a jog, a refresh with the same record restarts the
keepalive alone, and a replacement takes the new record, restarts the keepalive and forms the ceiling with the new speed
(R70). The model's choices in it: a direction above 1 is refused with BAD_VALUE (Log 23), and the speed is read unsigned
(Log 22). -/
def Obligations.JogRequest : Prop :=
  ∀ (tag : Byte) (p : List Byte) (s : State), s.Receptive → p.length = 5 →
    let dir := fieldU p 0 1
    let speed := fieldU p 1 4
    let pos := dir == 0
    let no := fun r => Host.Outcome.next (replied 0x23 tag (.error r) s)
    let j : Jog := { positive := pos, speed := min speed s.store.cal.vmax }
    let fresh := some (s.time.crystal + s.store.cal.keepaliveMs * 1000)
    (speed = 0 ∨ 1 < dir → exec (.jog tag p) s = no .badValue) ∧
    (speed ≠ 0 → dir ≤ 1 → s.betweenTests = false → exec (.jog tag p) s = no .wrongState) ∧
    (speed ≠ 0 → dir ≤ 1 → s.betweenTests = true → s.prot.latched ≠ FaultSet.empty →
      exec (.jog tag p) s = no .faultLatched) ∧
    (speed ≠ 0 → dir ≤ 1 → s.betweenTests = true → s.prot.latched = FaultSet.empty → s.motion.state = .standby →
      s.motion.queue ≠ [] → exec (.jog tag p) s = no .queueNotEmpty) ∧
    (speed ≠ 0 → dir ≤ 1 → s.betweenTests = true → s.prot.latched = FaultSet.empty → s.motion.state ≠ .standby →
      s.motion.state ≠ .jog → s.motion.suspendsJog = false → exec (.jog tag p) s = no .wrongState) ∧
    (speed ≠ 0 → dir ≤ 1 → s.betweenTests = true → s.prot.latched = FaultSet.empty →
      (s.motion.state = .jog ∨ s.motion.suspendsJog = true ∨ (s.motion.state = .standby ∧ s.motion.queue = [])) →
      (s.jogWithin pos = false ∨ (pos = true ∧ s.limitPos = true) ∨ (pos = false ∧ s.limitNeg = true)) →
      exec (.jog tag p) s = no .outsideTravel) ∧
    (speed ≠ 0 → dir ≤ 1 → s.betweenTests = true → s.prot.latched = FaultSet.empty → s.motion.state = .standby →
      s.motion.queue = [] → s.jogWithin pos = true → (pos = true → s.limitPos = false) →
      (pos = false → s.limitNeg = false) →
      ∃ t, exec (.jog tag p) s = .next t ∧ t.motion.state = .jog ∧ t.motion.jog = some j ∧
        t.motion.keepalive = fresh ∧ t.motion.lastDemand = (if s.estopClosed then s.motion.lastDemand else 0) ∧
        t.host.replies = s.host.replies ++ [replyOf 0x23 tag (.ok (jogBytes j))] ∧
        t.seq = s.seq ∧ t.store = s.store ∧ t.ext = s.ext) ∧
    (∀ old : Jog, speed ≠ 0 → dir ≤ 1 → s.betweenTests = true → s.prot.latched = FaultSet.empty →
      (s.motion.state = .jog ∨ s.motion.suspendsJog = true) → s.motion.jog = some old → s.jogWithin pos = true →
      (pos = true → s.limitPos = false) → (pos = false → s.limitNeg = false) →
      (old = j → exec (.jog tag p) s = .next (replied 0x23 tag (.ok (jogBytes j))
        { s with motion := { s.motion with keepalive := fresh } })) ∧
      (old ≠ j → s.motion.startedHead = none → j.speed ≤ s.store.cal.vmax →
        exec (.jog tag p) s = .next (replied 0x23 tag (.ok (jogBytes j))
          { s with motion := { s.motion with
              jog := some j, keepalive := fresh
              ceiling := if s.links.slr0.lock ≠ .locked ∨ s.store.calValid = false then
                min j.speed s.store.cal.blindSpeed else j.speed } })))

/-- O25. SET_TRAVEL (R82): a query, the checks in their order, and both limits replaced together. That a limit that is
absent is sent as its mark and four bytes 0 is the model's choice (Log 19). -/
def Obligations.SetTravel : Prop :=
  ∀ (tag : Byte) (p : List Byte) (s : State), s.Receptive →
    exec (.setTravel tag []) s = .next (replied 0x17 tag (.ok (travelBytes s.motion)) s) ∧
    (p.length = 10 → fieldU p 0 1 ≤ 1 → fieldU p 5 1 ≤ 1 →
      let lo := if fieldU p 0 1 = 1 then some (fieldS p 1 4) else none
      let up := if fieldU p 5 1 = 1 then some (fieldS p 6 4) else none
      let m := { s.motion with softLower := lo, softUpper := up }
      exec (.setTravel tag p) s = .next (
        if fieldU p 0 1 = 1 ∧ fieldU p 5 1 = 1 ∧ fieldS p 6 4 ≤ fieldS p 1 4 then
          replied 0x17 tag (.error .badValue) s
        else if s.betweenTests = false then replied 0x17 tag (.error .wrongState) s
        else if ¬ (s.motion.state = .off ∨ s.motion.state = .standby ∨ s.motion.state = .fault) then
          replied 0x17 tag (.error .wrongState) s
        else if s.motion.queue ≠ [] then replied 0x17 tag (.error .queueNotEmpty) s
        else replied 0x17 tag (.ok (travelBytes m)) { s with motion := m }))

/-- O26. ZERO_POS (R27): its checks in order; accepted, the count is 0 and with it the position, and nothing else
changes; a transition taken after it counts from 0. -/
def Obligations.ZeroPos : Prop :=
  ∀ (tag : Byte) (s : State), s.Receptive →
    exec (.zeroPos tag []) s = .next (
      if ¬ (s.seq.state = .idle ∨ s.seq.state = .complete ∨ s.seq.state = .aborted) then
        replied 0x1A tag (.error .wrongState) s
      else if ¬ (s.motion.state = .off ∨ s.motion.state = .standby ∨ s.motion.state = .fault) then
        replied 0x1A tag (.error .wrongState) s
      else if s.motion.queue ≠ [] then replied 0x1A tag (.error .queueNotEmpty) s
      else replied 0x1A tag (.ok []) { s with motion := { s.motion with encCount := 0 } }) ∧
    ({ s with motion := { s.motion with encCount := 0 } } : State).position = 0 ∧
    ((s.seq.state = .idle ∨ s.seq.state = .complete ∨ s.seq.state = .aborted) →
      (s.motion.state = .off ∨ s.motion.state = .standby ∨ s.motion.state = .fault) → s.motion.queue = [] →
      s.motion.encA = false → s.motion.encB = false →
      ∃ t u, exec (.zeroPos tag []) s = .next t ∧ exec (.encoderTransition true false) t = .next u ∧
        u.motion.encCount = 1)

/-! ## Protection, pins and lines -/

/-- O27. A drive fault confirmed at the blanking expiry, and the off-time's end (R113, R114, R86). In MOVE or JOG with
retries left it is retried: RETRY_WAIT with the suspended motion kept. Else it latches: FAULT, drive off, queue and jog
gone. The off-time's end in RETRY_WAIT resumes the started head or the jog, and enters STANDBY with neither. That the
expiry of a timer that does not run changes nothing is the model's choice (Log 2). -/
def Obligations.DriveFaultRetry : Prop :=
  ∀ s : State, s.Quiet → s.NoHoldRoute →
    (s.prot.blanking = none → exec .blankingTimerExpiry s = .next s) ∧
    (s.prot.blanking ≠ none → (s.motion.state = .move ∨ s.motion.state = .jog) → s.store.cal.retryEnable = true →
      s.retryCount < s.store.cal.retryLimit →
      ∃ t, exec .blankingTimerExpiry s = .next t ∧
        t.motion = { s.motion with
          state := .retryWait, driveEn := false, dest := none, lastDemand := 0, ceiling := t.motion.ceiling } ∧
        t.prot = { s.prot with
          blanking := none, episode := some (s.retryCount + 1),
          offTime := some (s.time.crystal + s.store.cal.offTimeMs * 1000) } ∧
        t.seq = s.seq ∧ t.ext = s.ext ∧ t.store = s.store) ∧
    (s.prot.blanking ≠ none → (s.motion.state = .standby ∨ s.motion.state = .test ∨ s.motion.state = .stopping ∨
        s.store.cal.retryEnable = false ∨ s.store.cal.retryLimit ≤ s.retryCount) →
      ∃ t, exec .blankingTimerExpiry s = .next t ∧
        t.prot.latched = { s.prot.latched with driveFault := true } ∧ t.motion.state = .fault ∧
        t.motion.driveEn = false ∧ t.motion.lastDemand = 0 ∧ t.motion.queue = [] ∧ t.motion.jog = none ∧
        t.prot.episode = none ∧ t.prot.blanking = none ∧ t.inTest = false ∧ t.store = s.store) ∧
    (s.prot.offTime = none → exec .offTimeExpiry s = .next s) ∧
    (s.prot.offTime ≠ none → s.motion.state = .retryWait → s.motion.startedHead ≠ none →
      ∃ t, exec .offTimeExpiry s = .next t ∧ t.motion.state = .move ∧ t.motion.queue = s.motion.queue ∧
        t.motion.refX = 2000 * s.position ∧ t.motion.driveEn = s.estopClosed ∧ t.prot.offTime = none ∧
        t.prot.episode = s.prot.episode ∧ t.seq = s.seq ∧ t.store = s.store) ∧
    (s.prot.offTime ≠ none → s.motion.state = .retryWait → s.motion.startedHead = none →
      ∃ t, exec .offTimeExpiry s = .next t ∧
        t.motion.state = (if s.motion.jog = none then .standby else .jog) ∧ t.motion.jog = s.motion.jog ∧
        t.motion.driveEn = s.estopClosed ∧ t.prot.offTime = none ∧
        t.prot.episode = (if s.motion.jog = none then none else s.prot.episode) ∧ t.seq = s.seq ∧ t.store = s.store) ∧
    (s.motion.state ≠ .retryWait → s.router.notices = [] → s.log.stream = false → s.host.replies = [] →
      exec .offTimeExpiry s = .next { s with prot := { s.prot with offTime := none } })

/-- O28. The grip counter's millisecond (R119), the end of an output pulse (R166), and the level of a line with source
PULSE after it (R164); and the level that every line drives by its source, with the levels of the status signals, and
its invert flag (R164, R165). -/
def Obligations.GripTickAndPulseEnd : Prop :=
  ∀ s : State,
    exec .gripSettleTick s = .next (if s.gripsClosed = true then
      { s with prot := { s.prot with gripCount := min 65535 (s.prot.gripCount + 1) } } else s) ∧
    (∀ k : Fin 8, ∃ t, exec (.pulseTimerExpiry k) s = .next t ∧
      t = { s with outs := s.outs.set k { s.outs.get k with pulse := none } } ∧
      ((s.outs.get k).source = .pulse → t.outLevel k = (s.outs.get k).invert) ∧
      ∀ i, i ≠ k → t.outs.get i = s.outs.get i) ∧
    (let level : OutSource → Option Nat → Bool := fun source pulse => match source with
      | .low => false
      | .high => true
      | .pulse => pulse != none
      | .status .testRunning => s.seq.state == .running || s.seq.state == .held || s.seq.state == .finishing
      | .status .crossheadMoving => s.motion.lastDemand != 0
      | .status .removeRequest => s.ext.removeRequest
      | .status .held => s.seq.state == .held
      | .status .anyFault => s.prot.latched != FaultSet.empty
      | .status .fractured => s.seq.fractured
      | .status .loadLocked => s.links.slr0.lock == .locked
      | .status (.monitorFired m) => (s.mon.bank.get m).state == .fired
    ∀ k : Fin 8, s.outLevel k = (level (s.outs.get k).source (s.outs.get k).pulse != (s.outs.get k).invert))

/-- O29. CLEAR_FAULT (R109): with the set empty it changes nothing; else its checks in order, and every member leaves
the set, FAULT becomes OFF with DRIVE_EN low, OFF stays, and the acceptance reports the members removed. That the
acceptance with the set empty carries one byte 0 is the model's choice (Log 19). -/
def Obligations.ClearFault : Prop :=
  ∀ (tag : Byte) (s : State), s.Receptive →
    let no := fun r => Host.Outcome.next (replied 0x25 tag (.error r) s)
    let f := s.prot.latched
    (f = FaultSet.empty → exec (.clearFault tag []) s = .next (replied 0x25 tag (.ok [0]) s)) ∧
    (f ≠ FaultSet.empty → s.estopClosed = false → exec (.clearFault tag []) s = no .estopOpen) ∧
    (f ≠ FaultSet.empty → s.estopClosed = true → s.motion.state ≠ .fault → s.motion.state ≠ .off →
      exec (.clearFault tag []) s = no .wrongState) ∧
    (f ≠ FaultSet.empty → s.estopClosed = true → (s.motion.state = .fault ∨ s.motion.state = .off) →
      f.overload = true → s.prot.overload = true → exec (.clearFault tag []) s = no .wrongState) ∧
    (f ≠ FaultSet.empty → s.estopClosed = true → (s.motion.state = .fault ∨ s.motion.state = .off) →
      (f.overload = true → s.prot.overload = false) →
      ∃ t, exec (.clearFault tag []) s = .next t ∧ t.prot.latched = FaultSet.empty ∧ t.motion.state = .off ∧
        (s.motion.state = .fault → t.motion.driveEn = false) ∧ t.motion.queue = s.motion.queue ∧ t.seq = s.seq ∧
        t.store = s.store ∧ t.router.notices = s.router.notices ∧
        t.host.replies = s.host.replies ++ [replyOf 0x25 tag (.ok [BitVec.ofNat 8
          ((if f.overload then 1 else 0) + (if f.driveFault then 2 else 0) + (if f.estop then 4 else 0) +
            (if f.overPos then 8 else 0) + (if f.overNeg then 16 else 0))])])

/-- O30. The discrete inputs (R161, R162, 06 R116). A raw change starts or stops the filter timer without an event; a
filter that expires, or a raw change under a filter time of 0, gives the filtered and asserted levels; ESTOP that so
reads open latches, with the drive off and the motion in FAULT; a limit switch that so becomes asserted latches an
overtravel where the demand last sent is toward it (R117), and else nothing of the motion changes. DRIVE_FAULT that
becomes asserted with DRIVE_EN high starts the blanking timer with the blanking time of the working calibration; with
DRIVE_EN low, and when it deasserts, the timer is stopped; no fault is latched by the change (R112). GRIPS_CLOSED that
opens returns the settle counter to 0 and holds a test with GRIP (R119, R120). EXT_ARMS_OPEN asserted fails a zeroing of
the primary (R45), and a change is counted by a removal in flight, which an assertion confirms before the timer has
expired (R54, R49, R52). BREAK_DETECT asserted takes the fracture where the method uses it (R179, R180). TRIGGER_IN
asserted gives its trigger to the queue's head, the armed test and the log (R163). There no route names HOLD. The
model's choices in it: in INIT only the pin level is taken (Log 13), the lower limit at which Af saturates (Log 57), and
the expiry of a filter that does not run changes nothing (Log 2). -/
def Obligations.InputChanges : Prop :=
  ∀ (k : Fin 8) (level : Bool) (s : State),
    let i := s.ins.get k
    let now := i.raw != s.store.cal.invert.get k
    (s.store.ready = false ∨ level = i.raw →
      exec (.inputRawChange k level) s = .next { s with ins := s.ins.set k { i with raw := level } }) ∧
    (s.store.ready = true → level ≠ i.raw → level = i.filtered →
      exec (.inputRawChange k level) s = .next { s with ins := s.ins.set k { i with raw := level, timer := none } }) ∧
    (s.store.ready = true → level ≠ i.raw → level ≠ i.filtered → s.store.cal.filterMs.get k ≠ 0 →
      exec (.inputRawChange k level) s = .next { s with ins := (s.ins.set k
        { i with raw := level, timer := some (s.time.crystal + s.store.cal.filterMs.get k * 1000) }) }) ∧
    (s.store.ready = true → level ≠ i.raw → level ≠ i.filtered → s.store.cal.filterMs.get k = 0 →
      ∃ t, exec (.inputRawChange k level) s = .next t ∧ t.ins = s.ins.set k
        { raw := level, filtered := level, asserted := level != s.store.cal.invert.get k, timer := none }) ∧
    (i.timer = none → exec (.inputFilterExpiry k) s = .next s) ∧
    (i.timer ≠ none → ∃ t, exec (.inputFilterExpiry k) s = .next t ∧
      t.ins = s.ins.set k { raw := i.raw, filtered := i.raw, asserted := now, timer := none } ∧
      (k = 0 → i.asserted = true → now = false →
        t.prot.latched = { s.prot.latched with estop := true } ∧ t.motion.state = .fault ∧ t.motion.driveEn = false ∧
        t.motion.lastDemand = 0 ∧ t.motion.queue = [] ∧ t.inTest = false) ∧
      ((k = 1 ∨ k = 2) → i.asserted = false → now = true → s.Quiet → s.NoHoldRoute →
        (k = 1 → s.limitNeg = false) → (k = 2 → s.limitPos = false) →
        let toward := (k = 1 ∧ 0 < s.motion.lastDemand) ∨ (k = 2 ∧ s.motion.lastDemand < 0)
        (toward → t.motion.state = .fault ∧ t.motion.driveEn = false ∧ t.motion.lastDemand = 0 ∧ t.motion.queue = [] ∧
          t.inTest = false ∧ t.prot.latched = (if k = 1 then { s.prot.latched with overPos := true }
            else { s.prot.latched with overNeg := true })) ∧
        (¬ toward → t.motion = s.motion ∧ t.prot = s.prot ∧ t.seq = s.seq)) ∧
      (k = 3 → i.asserted ≠ now → s.Quiet → s.NoHoldRoute →
        let blanking := if now = true ∧ s.motion.driveEn = true then
            some (s.time.crystal + s.store.cal.blankingMs * 1000)
          else none
        t.prot = { s.prot with blanking := blanking } ∧
        t.motion = s.motion ∧ t.loop = s.loop ∧ t.seq = s.seq ∧ t.ext = s.ext ∧ t.result = s.result) ∧
      (k = 4 → i.asserted = true → now = false → s.Quiet → s.NoHoldRoute →
        let held : HeldSet := { s.seq.held with grip := true }
        t.prot = { s.prot with gripCount := 0 } ∧ t.motion = s.motion ∧ t.ext = s.ext ∧ t.result = s.result ∧
        (s.inTest = false → t.seq = s.seq ∧ t.loop = s.loop) ∧
        (s.seq.state = .held → t.seq = { s.seq with held := held } ∧ t.loop = s.loop) ∧
        (s.seq.state = .running →
          t.seq = { s.seq with state := .held, held := held, heldSince := some s.time.crystal } ∧
          t.loop.mode = some .holdPosition ∧ t.loop.target = s.position ∧ t.loop.rate = 0)) ∧
      (k = 5 → i.asserted ≠ now → s.Quiet → s.NoHoldRoute →
        let inFlight := s.ext.removal.mode ≠ none ∧ s.ext.removal.requestTime ≠ none ∧ s.ext.removal.kind = none
        let p := if now = true then { s.ext.primary with op := none } else s.ext.primary
        let counted := min 255 (s.ext.removal.edges + 1)
        (¬ inFlight → t.ext = { s.ext with primary := p } ∧ t.seq = s.seq ∧ t.motion = s.motion) ∧
        (inFlight → now = false ∨ s.ext.removal.timer = .expired →
          t.ext = { s.ext with primary := p, removal := { s.ext.removal with edges := counted } } ∧ t.seq = s.seq ∧
          t.motion = s.motion) ∧
        (inFlight → now = true → s.ext.removal.timer ≠ .expired →
          t.ext.removal.kind = some .armsInput ∧ t.ext.removal.timer = .stopped ∧ t.ext.removal.edges = counted ∧
          t.ext.removeRequest = false ∧ t.ext.primary.op = none ∧
          (s.ext.primary.state ≠ .lost → t.ext.primary.state = .removed ∧ t.ext.primary.zeroed = false) ∧
          (s.ext.primary.state = .lost → t.ext.primary.state = .lost) ∧
          (s.ext.removal.mode = some .pause → t.seq.held.removal = false) ∧
          (s.ext.removal.mode = some .fly → t.seq = s.seq ∧ t.motion = s.motion ∧ t.strain = s.strain))) ∧
      (k = 6 → i.asserted = false → now = true → s.Quiet → s.NoHoldRoute →
        let taken := s.seq.method.useBreak = true ∧ s.result.fracArmed = true ∧ s.inTest = true
        (¬ taken → t.seq = s.seq ∧ t.motion = s.motion ∧ t.result = s.result ∧ t.ext = s.ext) ∧
        (taken → t.inTest = false ∧ t.seq.endReason = some .fracture ∧ t.seq.fractured = true ∧
          t.result.fracArmed = false ∧ t.ext.removal.inFlight = false ∧
          (s.motion.state = .test → s.motion.lastDemand ≠ 0 → t.seq.state = .finishing ∧ t.motion.state = .stopping ∧
            t.motion.dest = some .standby) ∧
          ∀ r, s.result.record = some r → r.closed = false → ∀ b, s.result.prev = some b →
            ∃ q, t.result.record = some q ∧ q.brk = some { strain := b.strain, force := b.force } ∧
              q.af = s.result.e.map (fun e =>
                sat32 (b.strain - roundDiv (b.stress * 10000) (e : Int))))) ∧
      (k = 7 → i.asserted = false → now = true → s.Quiet → s.NoHoldRoute →
        let n := s.store.cal.triggerIn
        let waits := s.seq.state = .armed ∧ (n = 0 ∨ s.seq.armedTrigger = some n)
        (waits → t.seq.state ≠ .armed) ∧
        (¬ waits → t.seq = s.seq ∧ t.ext = s.ext ∧
          ((∃ m, s.log.state = .waiting m ∧ (n = 0 ∨ n = m)) → t.log.state = .running ∧
            t.log.due = some (s.time.crystal + s.log.interval * 500)) ∧
          (¬ (∃ m, s.log.state = .waiting m ∧ (n = 0 ∨ n = m)) → t.log.state = s.log.state ∧ t.log.due = s.log.due)) ∧
        (∀ seg rest, s.motion.queue = seg :: rest → s.motion.state = .standby → seg.started = false →
          (n = 0 ∨ n = seg.trigger) → t.motion.state = .move ∧ t.motion.queue = { seg with started := true } :: rest ∧
            t.motion.refX = 2000 * s.position) ∧
        (¬ waits → s.motion.queue = [] → t.motion = s.motion)))

/-! ## Test Sequencer -/

/-- O31. ARM with a trigger number of 1 to 15 (R128): the checks in their order; with all of them met the test waits,
ARMED with its number, and only ARMED is raised. -/
def Obligations.ArmWaits : Prop :=
  ∀ (tag b : Byte) (s : State), s.Receptive → b ≠ 0 →
    let no := fun r => Host.Outcome.next (replied 0x29 tag (.error r) s)
    exec (.arm tag [b]) s =
      if 15 < b.toNat then no .badValue
      else if s.seq.state ≠ .idle then no .wrongState
      else if s.store.save ≠ none then no .busy
      else if s.store.calValid = false then no .calInvalid
      else if s.links.slr0.lock ≠ .locked then no .loadUnlocked
      else if s.prot.latched ≠ FaultSet.empty then no .faultLatched
      else if s.motion.state ≠ .standby then no .wrongState
      else if s.motion.queue ≠ [] then no .queueNotEmpty
      else if s.force.tareOp ≠ none ∨ s.ext.primary.op ≠ none ∨ s.ext.secondary.op ≠ none then no .busy
      else if s.gripsSettled = false then no .gripsNotSettled
      else if s.methodValid = false then no .methodInvalid
      else .next (settle (answered 0x29 tag (.ok [1])
        { s with
          seq := { s.seq with state := .armed, armedTrigger := some b.toNat }
          router := { s.router with raised := [s.event 0x0601 b.toNat] } }))

/-- O32. Test start by ARM with trigger 0 (R131), where the exit of phase 0 is of kind TIME or FRACTURE_ONLY and no
route names HOLD: what it leaves in every block (`State.BeginsTest`), the ring emptied (R189) and then holding no more
than the MARK of each event of the start that a route marks, and the acceptance. The zero is that of R31, with the
crosshead strain and the active strain formed from the new P0; the removal record that of R46, the slip tracker set
(R41, R59); Fmax, its strain and the mark of a curve point cleared (R20); the Result Engine's items (R169, R182); the
monitors of scope TEST armed (R152), those of scope ALWAYS on the two strains evaluated; the ceiling formed with the
vmax of phase 0 (R84, R70); and the Rate Loop rebased onto phase 0 (R133, R100). The model's choices in it: none as the
moment HELD was last entered (Log 61), the measured value kept at the rebase (Log 36), the lower limit at which the two
strains saturate (Log 57), and the events of the start routed in the order in which they are raised, those before the
clearing of the log before it (Log 4). -/
def Obligations.ArmStartsTest : Prop :=
  ∀ (tag : Byte) (s : State), s.Receptive → s.NoHoldRoute → s.seq.state = .idle → s.store.save = none →
    s.store.calValid = true → s.links.slr0.lock = .locked → s.prot.latched = FaultSet.empty →
    s.motion.state = .standby → s.motion.queue = [] → s.force.tareOp = none → s.ext.primary.op = none →
    s.ext.secondary.op = none → s.gripsSettled = true → s.methodValid = true →
    (s.seq.phases.e0.exit = .time ∨ s.seq.phases.e0.exit = .fractureOnly) →
    ∃ t, exec (.arm tag [0]) s = .next t ∧ s.BeginsTest t ∧
      t.host.replies = s.host.replies ++ [{ kind := 0xA9, tag := tag, payload := [2] }] ∧
      t.log.ring.map (fun r => (r.kind, r.force)) =
        ([0x0902, 0x0602, 0x0610].filter (fun c : Nat => decide (s.Marked c))).map (fun c : Nat => (LogKind.mark, (c : Int)))

/-- O33. TRIGGER (R163): above 15 it is refused; with nothing waiting on it, or a head segment in STANDBY (R73) or a log
(R188) that waits for another number, only TRIGGER(n) is raised, with value 0; a waiting log that it matches starts
(R188); an armed test it does not match stays ARMED, and one that it fires checks the conditions of ARM again, in their
order: with one that fails the test is IDLE and the reason's number is the value of the event, with none it starts
(R129, R131), here in a phase that no event ends, and leaves what O32 says of a test start; a waiting head segment it
matches in STANDBY begins (R73). The model's choices in it: LOG_STARTED, IDLE and the events of a test start are raised
before TRIGGER(n) (Log 29), and those of a test start that O32 names (Logs 61, 36, 4, 57). -/
def Obligations.TriggerRequest : Prop :=
  ∀ (tag b : Byte) (s : State), s.Receptive →
    (15 < b.toNat → exec (.trigger tag [b]) s = .next (replied 0x28 tag (.error .badValue) s)) ∧
    (b.toNat ≤ 15 → s.NoHeadFor b.toNat →
      (s.seq.state ≠ .armed ∨ (b ≠ 0 ∧ s.seq.armedTrigger ≠ some b.toNat)) →
      (s.log.state = .stopped ∨ s.log.state = .running ∨
        ∃ m, s.log.state = .waiting m ∧ b ≠ 0 ∧ b.toNat ≠ m) →
      exec (.trigger tag [b]) s = .next (settle (answered 0x28 tag (.ok [])
        { s with router := { s.router with raised := [s.event (0x0A10 + b.toNat) 0] } }))) ∧
    (∀ m, s.log.state = .waiting m → b.toNat ≤ 15 → s.NoHeadFor b.toNat →
      (s.seq.state ≠ .armed ∨ (b ≠ 0 ∧ s.seq.armedTrigger ≠ some b.toNat)) → (b = 0 ∨ b.toNat = m) →
      exec (.trigger tag [b]) s = .next (settle (answered 0x28 tag (.ok [])
        { s with
          log := { s.log with state := .running, due := some (s.time.crystal + s.log.interval * 500) }
          router := { s.router with
            raised := [s.event 0x0902 s.log.seqNo, s.event (0x0A10 + b.toNat) 0] } }))) ∧
    (b.toNat ≤ 15 → s.seq.state = .armed → (b = 0 ∨ s.seq.armedTrigger = some b.toNat) →
      (s.log.state = .stopped ∨ s.log.state = .running) → s.NoHeadFor b.toNat →
      let failing : Nat :=
        if s.store.save ≠ none then 5
        else if s.store.calValid = false then 6
        else if s.links.slr0.lock ≠ .locked then 7
        else if s.prot.latched ≠ FaultSet.empty then 10
        else if s.motion.state ≠ .standby then 4
        else if s.motion.queue ≠ [] then 9
        else if s.force.tareOp ≠ none ∨ s.ext.primary.op ≠ none ∨ s.ext.secondary.op ≠ none then 5
        else if s.gripsSettled = false then 12
        else if s.methodValid = false then 15
        else 0
      (failing ≠ 0 →
        let idle := { s with seq := { s.seq with state := .idle, armedTrigger := none } }
        exec (.trigger tag [b]) s = .next (settle (answered 0x28 tag (.ok [])
          { idle with router := { s.router with
              raised := [idle.event 0x0668 failing, idle.event (0x0A10 + b.toNat) 0] } }))) ∧
      (failing = 0 → s.NoHoldRoute → (s.seq.phases.e0.exit = .time ∨ s.seq.phases.e0.exit = .fractureOnly) →
        ∃ t, exec (.trigger tag [b]) s = .next t ∧ s.BeginsTest t ∧
          t.host.replies = s.host.replies ++ [{ kind := 0xA8, tag := tag, payload := [] }] ∧
          t.log.ring.map (fun r => (r.kind, r.force)) =
            ([0x0902, 0x0602, 0x0610, 0x0A10 + b.toNat].filter (fun c : Nat => decide (s.Marked c))).map
              (fun c : Nat => (LogKind.mark, (c : Int))))) ∧
    (∀ seg rest, s.motion.queue = seg :: rest → b.toNat ≤ 15 → s.NoHoldRoute → s.motion.state = .standby →
      seg.started = false → (b = 0 ∨ b.toNat = seg.trigger) →
      (s.seq.state ≠ .armed ∨ (b ≠ 0 ∧ s.seq.armedTrigger ≠ some b.toNat)) →
      ∃ t, exec (.trigger tag [b]) s = .next t ∧ t.motion.state = .move ∧
        t.motion.queue = { seg with started := true } :: rest ∧ t.motion.refX = 2000 * s.position ∧
        t.seq = s.seq ∧ t.store = s.store ∧ t.ext = s.ext)

/-- O34. HOLD (R137, R136, R101): in RUNNING and HELD it is accepted with the set as it stands after, HOST among it, and
the test is HELD with the Rate Loop holding position; a test already HELD keeps its loop; elsewhere it is refused. No
route names HOLD, so no event of the hold adds ROUTE. -/
def Obligations.HoldRequest : Prop :=
  ∀ (tag : Byte) (s : State), s.Receptive →
    (s.seq.state ≠ .running → s.seq.state ≠ .held →
      exec (.hold tag []) s = .next (replied 0x2A tag (.error .wrongState) s)) ∧
    (s.seq.state = .running ∨ s.seq.state = .held → s.NoHoldRoute →
      ∃ t, exec (.hold tag []) s = .next t ∧
        t = { s with
          seq := { s.seq with
            state := .held, held := { s.seq.held with host := true },
            heldSince := if s.seq.state = .running then some s.time.crystal else s.seq.heldSince }
          loop := t.loop, router := t.router, log := t.log, outs := t.outs, host := t.host } ∧
        (s.seq.state = .running → t.loop.mode = some .holdPosition ∧ t.loop.target = s.position ∧ t.loop.rate = 0) ∧
        (s.seq.state = .held → t.loop = s.loop) ∧
        t.host.replies = s.host.replies ++ [replyOf 0x2A tag (.ok [BitVec.ofNat 8
          (1 + (if s.seq.held.route then 2 else 0) + (if s.seq.held.removal then 4 else 0) +
            (if s.seq.held.lockLoss then 8 else 0) + (if s.seq.held.grip then 16 else 0))])])

/-- O35. RESUME (R138, R139, R102): its checks in order; accepted with REMOVAL in the set, the test stays HELD on
REMOVAL alone; accepted with none left and no pending exit, it runs again in the phase's mode with the demand built from
0. With a pending exit the next phase is entered as it runs again, with the demand built from 0 (R139, R133, R103), here
one whose own exit is TIME or FRACTURE_ONLY and after no strain zero; past the last phase the test goes to FINISHING
with LAST_PHASE while the motion stops. No route names HOLD. That HELD's entry time is none once HELD is left is the
model's choice (Log 61). -/
def Obligations.ResumeRequest : Prop :=
  ∀ (tag : Byte) (s : State), s.Receptive →
    let no := fun r => Host.Outcome.next (replied 0x2B tag (.error r) s)
    (s.inTest = false → exec (.resume tag []) s = no .wrongState) ∧
    (s.inTest = true → s.seq.held.grip = true → s.gripsClosed = false → exec (.resume tag []) s = no .gripsOpen) ∧
    (s.inTest = true → (s.seq.held.grip = true → s.gripsClosed = true) → s.seq.held.lockLoss = true →
      s.links.slr0.lock ≠ .locked → exec (.resume tag []) s = no .loadUnlocked) ∧
    (s.inTest = true → (s.seq.held.grip = true → s.gripsClosed = true) →
      (s.seq.held.lockLoss = true → s.links.slr0.lock = .locked) → s.seq.held.removal = true →
      exec (.resume tag []) s = .next (replied 0x2B tag (.ok [4])
        { s with seq := { s.seq with held := { HeldSet.empty with removal := true } } })) ∧
    (s.seq.state = .running → (s.seq.held.grip = true → s.gripsClosed = true) →
      (s.seq.held.lockLoss = true → s.links.slr0.lock = .locked) → s.seq.held.removal = false →
      exec (.resume tag []) s = .next (replied 0x2B tag (.ok [0])
        { s with seq := { s.seq with held := HeldSet.empty } })) ∧
    (s.seq.state = .held → s.NoHoldRoute → (s.seq.held.grip = true → s.gripsClosed = true) →
      (s.seq.held.lockLoss = true → s.links.slr0.lock = .locked) → s.seq.held.removal = false →
      s.seq.pendingExit = false →
      ∃ t, exec (.resume tag []) s = .next t ∧
        t = { s with
          seq := { s.seq with state := .running, held := HeldSet.empty, heldSince := none }
          loop := t.loop, router := t.router, log := t.log, outs := t.outs, host := t.host } ∧
        t.loop.mode = some (s.seq.phases.get s.seq.phase).mode ∧ t.loop.integ = 0 ∧ t.loop.prev = 0 ∧
        t.host.replies = s.host.replies ++ [{ kind := 0xAB, tag := tag, payload := [0] }]) ∧
    (∀ k : Fin 8, s.seq.state = .held → s.NoHoldRoute → (s.seq.held.grip = true → s.gripsClosed = true) →
      (s.seq.held.lockLoss = true → s.links.slr0.lock = .locked) → s.seq.held.removal = false →
      s.seq.pendingExit = true → k.val = s.seq.phase.val + 1 → k.val < s.seq.method.phaseCount →
      ((s.seq.phases.get k).exit = .time ∨ (s.seq.phases.get k).exit = .fractureOnly) →
      (s.seq.phase ≠ 0 ∨ s.seq.method.strainZero = false) →
      ∃ t, exec (.resume tag []) s = .next t ∧
        t.seq = { s.seq with
          state := .running, held := HeldSet.empty, heldSince := none, pendingExit := false, phase := k
          phaseStart := some s.time.crystal } ∧
        t.loop.mode = some (s.seq.phases.get k).mode ∧ t.loop.integ = 0 ∧ t.loop.prev = 0 ∧
        t.motion.state = s.motion.state ∧ t.motion.lastDemand = s.motion.lastDemand ∧ t.ext = s.ext ∧
        t.strain = s.strain ∧ t.store = s.store ∧ t.time = s.time ∧
        t.host.replies = s.host.replies ++ [{ kind := 0xAB, tag := tag, payload := [0] }]) ∧
    (s.seq.state = .held → (s.seq.held.grip = true → s.gripsClosed = true) →
      (s.seq.held.lockLoss = true → s.links.slr0.lock = .locked) → s.seq.held.removal = false →
      s.seq.pendingExit = true → s.seq.method.phaseCount ≤ s.seq.phase.val + 1 → s.motion.state = .test →
      s.motion.lastDemand ≠ 0 →
      ∃ t, exec (.resume tag []) s = .next t ∧
        t.seq = { s.seq with
          state := .finishing, held := HeldSet.empty, heldSince := none, pendingExit := false
          endReason := some .lastPhase, phaseStart := none, phaseCount := t.seq.phaseCount } ∧
        t.motion.state = .stopping ∧ t.motion.dest = some .standby ∧ t.loop.mode = none ∧ t.loop.integ = 0 ∧
        t.store = s.store ∧ t.time = s.time ∧
        t.host.replies = s.host.replies ++ [{ kind := 0xAB, tag := tag, payload := [0] }])

/-- O36. END (R143, R141) and ABORT (R145, R144, R130). In RUNNING and HELD, with the motion in TEST at a demand other
than 0, the test goes to FINISHING with its end reason while the motion stops toward STANDBY; an ABORT at a demand of 0
leaves it ABORTED at once, and an END there COMPLETE; an armed test returns to IDLE on ABORT. In FINISHING END is
accepted and changes nothing, and ABORT makes ABORT the end reason and keeps the first cause, HOST where there is none:
the stop goes on, and a test whose motion is FAULT or OFF is ABORTED at once. ABORT in IDLE, COMPLETE and ABORTED is
refused, and END there and in ARMED. -/
def Obligations.EndAndAbort : Prop :=
  ∀ (tag : Byte) (s : State), s.Receptive →
    (s.testing = false → exec (.endTest tag []) s = .next (replied 0x2C tag (.error .wrongState) s)) ∧
    (s.seq.state = .finishing → exec (.endTest tag []) s = .next (replied 0x2C tag (.ok []) s)) ∧
    (s.inTest = true → s.motion.state = .test → s.motion.lastDemand ≠ 0 →
      ∃ t, exec (.endTest tag []) s = .next t ∧
        t.host.replies = s.host.replies ++ [{ kind := 0xAC, tag := tag, payload := [] }] ∧
        t.seq.state = .finishing ∧ t.seq.endReason = some .endReq ∧ t.seq.held = HeldSet.empty ∧
        t.seq.pendingExit = false ∧ t.seq.phaseStart = none ∧ t.motion.state = .stopping ∧
        t.motion.dest = some .standby ∧ t.loop.mode = none ∧ t.time = s.time ∧ t.store = s.store ∧
        t.force = s.force ∧ t.links = s.links) ∧
    (s.inTest = true → s.motion.state = .test → s.motion.lastDemand = 0 →
      ∃ t, exec (.endTest tag []) s = .next t ∧
        t.host.replies = s.host.replies ++ [{ kind := 0xAC, tag := tag, payload := [] }] ∧
        t.seq.state = .complete ∧ t.seq.endReason = some .endReq ∧ t.seq.held = HeldSet.empty ∧
        t.seq.pendingExit = false ∧ t.seq.phaseStart = none ∧ t.motion.state = .standby ∧ t.motion.queue = [] ∧
        t.loop.mode = none ∧ t.ext.removeRequest = false ∧ t.time = { s.time with testRunning := false } ∧
        t.store = s.store ∧ t.force = s.force ∧ t.links = s.links) ∧
    (s.seq.state = .finishing → s.motion.state ≠ .fault → s.motion.state ≠ .off →
      exec (.abort tag []) s = .next (replied 0x2D tag (.ok []) { s with seq := { s.seq with
        endReason := some .abort
        abortCause := some (match s.seq.abortCause with | some c => c | none => .host)
        abortMs := if s.seq.abortCause = none then s.time.testTime / 1000 else s.seq.abortMs } })) ∧
    (s.seq.state = .finishing → (s.motion.state = .fault ∨ s.motion.state = .off) →
      ∃ t, exec (.abort tag []) s = .next t ∧
        t.host.replies = s.host.replies ++ [{ kind := 0xAD, tag := tag, payload := [] }] ∧
        t.seq.state = .aborted ∧ t.seq.endReason = some .abort ∧
        t.seq.abortCause = some (match s.seq.abortCause with | some c => c | none => .host) ∧
        t.ext.removeRequest = false ∧ t.time = { s.time with testRunning := false } ∧
        t.motion = s.motion ∧ t.store = s.store ∧ t.force = s.force ∧ t.links = s.links) ∧
    ((s.seq.state = .idle ∨ s.seq.state = .complete ∨ s.seq.state = .aborted) →
      exec (.abort tag []) s = .next (replied 0x2D tag (.error .wrongState) s)) ∧
    (s.seq.state = .armed → exec (.abort tag []) s = .next (settle (answered 0x2D tag (.ok [])
      { s with
        seq := { s.seq with state := .idle, armedTrigger := none }
        router := { s.router with raised :=
          [({ s with seq := { s.seq with state := .idle } } : State).event 0x0661 0] } }))) ∧
    (s.inTest = true → s.motion.state = .test →
      ∃ t, exec (.abort tag []) s = .next t ∧
        t.host.replies = s.host.replies ++ [{ kind := 0xAD, tag := tag, payload := [] }] ∧
        t.seq.state = (if s.motion.lastDemand = 0 then .aborted else .finishing) ∧
        t.seq.endReason = some .abort ∧ t.seq.abortCause = some .host ∧ t.seq.held = HeldSet.empty ∧
        t.motion.state = (if s.motion.lastDemand = 0 then .standby else .stopping) ∧
        t.time = { s.time with testRunning := if s.motion.lastDemand = 0 then false else s.time.testRunning } ∧
        t.store = s.store ∧ t.force = s.force ∧ t.links = s.links)

/-- O37. CLEAR_TEST (R147, R42): in COMPLETE and ABORTED the record, the zeroed marks, the removal record, the end
reason and the cause go, and the state is IDLE; in IDLE nothing changes; elsewhere it is refused. -/
def Obligations.ClearTest : Prop :=
  ∀ (tag : Byte) (s : State), s.Receptive →
    let cleared := fun (n : Link) (e : Ext) => { e with
      zeroed := false, state := if (s.links.get n).lock = .locked then ExtState.unzeroed else .absent }
    exec (.clearTest tag []) s =
      if s.seq.state = .idle then .next (replied 0x2E tag (.ok []) s)
      else if s.seq.state = .complete ∨ s.seq.state = .aborted then
        .next (replied 0x2E tag (.ok []) { s with
          result := { s.result with record := none }
          ext := { s.ext with
            primary := cleared .slr1 s.ext.primary, secondary := cleared .slr2 s.ext.secondary
            removal := State.reset.ext.removal }
          seq := { s.seq with endReason := none, abortCause := none, phase := 0, state := .idle, fractured := false } })
      else .next (replied 0x2E tag (.error .wrongState) s)

/-- O38. The phase timer of a phase with a TIME exit (R135, R132, R133): in HELD the exit is pending; in the last phase
while RUNNING the test goes to its end with LAST_PHASE; else the next phase is entered, here one whose own exit is TIME
or FRACTURE_ONLY. The strain zero, where the method has it, is part of the exit of phase 0 (R36): P0 is the present
position, S is 0, an active extensometer takes its latest raw reading as its zero, the crosshead strain and the active
strain start from there, and the slip tracker and the Result Engine's items are set afresh (R59, R169); there no monitor
watches the two strains. The lower limit at which values saturate is the model's choice (Log 57), and that the expiry of
a timer that does not run, or of a phase of another kind, takes no exit is the model's choice (Log 2). -/
def Obligations.PhaseTimerExpiry : Prop :=
  ∀ s : State, s.Quiet → s.NoHoldRoute →
    ((s.inTest = false ∨ s.seq.phaseStart = none) → exec .phaseTimerExpiry s = .next s) ∧
    (s.seq.state = .held → s.seq.phaseStart ≠ none → (s.seq.phases.get s.seq.phase).exit = .time →
      ∃ t, exec .phaseTimerExpiry s = .next t ∧ t.seq = { s.seq with pendingExit := true } ∧ t.motion = s.motion ∧
        t.loop = s.loop ∧ t.ext = s.ext ∧ t.store = s.store) ∧
    (s.seq.state = .running → s.seq.phaseStart ≠ none → (s.seq.phases.get s.seq.phase).exit = .time →
      s.seq.method.phaseCount ≤ s.seq.phase.val + 1 → s.motion.state = .test → s.motion.lastDemand ≠ 0 →
      ∃ t, exec .phaseTimerExpiry s = .next t ∧ t.seq.state = .finishing ∧ t.seq.endReason = some .lastPhase ∧
        t.seq.phaseStart = none ∧ t.motion.state = .stopping ∧ t.motion.dest = some .standby ∧ t.store = s.store) ∧
    (∀ k : Fin 8, s.seq.state = .running → s.seq.phaseStart ≠ none →
      (s.seq.phases.get s.seq.phase).exit = .time → k.val = s.seq.phase.val + 1 → k.val < s.seq.method.phaseCount →
      ((s.seq.phases.get k).exit = .time ∨ (s.seq.phases.get k).exit = .fractureOnly) →
      (s.seq.phase ≠ 0 ∨ s.seq.method.strainZero = false) →
      ∃ t, exec .phaseTimerExpiry s = .next t ∧
        t.seq = { s.seq with phase := k, phaseStart := some s.time.crystal } ∧
        t.loop.mode = some (s.seq.phases.get k).mode ∧ t.motion.state = s.motion.state ∧ t.ext = s.ext ∧
        t.strain = s.strain ∧ t.store = s.store) ∧
    (s.seq.state = .running → s.seq.phaseStart ≠ none → s.seq.phase = 0 → s.seq.method.strainZero = true →
      s.seq.phases.e0.exit = .time → 1 < s.seq.method.phaseCount →
      (s.seq.phases.e1.exit = .time ∨ s.seq.phases.e1.exit = .fractureOnly) → s.Unwatched .strain →
      s.Unwatched .crossheadStrain →
      let stretch := roundDiv ((s.store.cal.compliance : Int) * s.force.f) 100000
      let epsC := if s.strain.specimen.lc = 0 then 0
        else sat32 (roundDiv (-stretch * 10000) (s.strain.specimen.lc : Int))
      let zeroed := fun e : Ext => { e with zero := e.raw, elong := 0, strain := 0 }
      ∃ t, exec .phaseTimerExpiry s = .next t ∧
        t.strain = { s.strain with
          p0 := s.position, stitch := 0, epsC := epsC
          active := if s.strain.source = .crosshead then epsC else 0 } ∧
        t.ext = { s.ext with
          primary := if s.strain.source = .primary then zeroed s.ext.primary else s.ext.primary
          secondary := if s.strain.source = .secondary then zeroed s.ext.secondary else s.ext.secondary
          slipM := 0, slipX := epsC } ∧
        t.result = { s.result with
          fit := .isOpen, n := 0, sx := 0, sy := 0, sxy := 0, sxx := 0, e := none, proof := .waiting, yield := .searching
          smax := none, minAll := none, minClear := none, lastPlateau := none, rmDecided := false, prev := none
          record := t.result.record } ∧
        (∀ r, s.result.record = some r → r.closed = false → t.result.record = some { r with
          e := none, reH := none, reL := none, ae := none, rp := none, ag := none
          flags := { r.flags with rpFromCrosshead := false, fitPointsCapped := false, reLTransientOnly := false } }) ∧
        t.seq = { s.seq with phase := 1, phaseStart := some s.time.crystal } ∧
        t.loop.mode = some s.seq.phases.e1.mode ∧ t.motion.state = s.motion.state ∧ t.force = s.force ∧
        t.store = s.store) ∧
    (s.inTest = true → s.seq.phaseStart ≠ none → (s.seq.phases.get s.seq.phase).exit ≠ .time →
      ∃ t, exec .phaseTimerExpiry s = .next t ∧ t.seq = s.seq ∧ t.motion = s.motion ∧ t.loop = s.loop)

/-- O39. SET_SPECIMEN (R22), SET_METHOD (R125), SET_PHASE (R126) and SET_LOOP (R91): a query reports the record; a
record within its accepted values replaces it whole and is reported as stored; the refusals change nothing. The model's
choices in it: SET_PHASE's WRONG_STATE before its BAD_VALUE (Log 47), the flag bytes (Log 18), unsigned speeds (Log 22)
and the layouts of the records (Log 19). -/
def Obligations.TestSettings : Prop :=
  ∀ (tag : Byte) (p : List Byte) (s : State), s.Receptive →
    (s.betweenTests = false → (p.length = 0 ∨ p.length = 24) →
      exec (.setSpecimen tag p) s = .next (replied 0x10 tag (.error .wrongState) s)) ∧
    (s.betweenTests = true →
      exec (.setSpecimen tag []) s = .next (replied 0x10 tag (.ok (specimenBytes s.strain.specimen)) s)) ∧
    (s.betweenTests = true → p.length = 24 →
      let r : Specimen :=
        { area := fieldU p 0 4, lc := fieldU p 4 4, l0Prim := fieldU p 8 4, l0Sec := fieldU p 12 4,
          eMin := fieldU p 16 4, eMax := fieldU p 20 4 }
      let fits := (1 ≤ r.area ∧ r.area ≤ 4000000000) ∧ (1000 ≤ r.lc ∧ r.lc ≤ 2000000) ∧
        (1000 ≤ r.l0Prim ∧ r.l0Prim ≤ 2000000) ∧ (1000 ≤ r.l0Sec ∧ r.l0Sec ≤ 2000000) ∧
        (1 ≤ r.eMin ∧ r.eMin ≤ 1000000) ∧ (r.eMin ≤ r.eMax ∧ r.eMax ≤ 1000000)
      (fits → exec (.setSpecimen tag p) s = .next (replied 0x10 tag (.ok p)
        { s with strain := { s.strain with specimen := r } })) ∧
      (¬ fits → exec (.setSpecimen tag p) s = .next (replied 0x10 tag (.error .badValue) s))) ∧
    (s.betweenTests = false → (p.length = 0 ∨ p.length = 52) →
      exec (.setMethod tag p) s = .next (replied 0x11 tag (.error .wrongState) s)) ∧
    (s.betweenTests = true →
      exec (.setMethod tag []) s = .next (replied 0x11 tag (.ok (methodBytes s.seq.method)) s)) ∧
    (s.betweenTests = true → p.length = 52 →
      let m : Method :=
        { phaseCount := fieldU p 0 1, strainZero := fieldU p 1 1 == 1
          policy := if fieldU p 2 1 = 0 then .none else if fieldU p 2 1 = 1 then .pause else .fly
          cond := if fieldU p 2 1 = 0 then none
            else some (if fieldU p 3 1 < 8 then .monitor (Fin.ofNat 8 (fieldU p 3 1)) else .afterProof)
          timeout := fieldU p 4 2, guardMargin := fieldU p 6 4, slip := fieldU p 10 4, lockAbort := fieldU p 14 1 == 1
          fitLower := fieldU p 15 4, fitUpper := fieldU p 19 4, proofOffset := fieldU p 23 4
          yieldDrop := fieldU p 27 2, transient := fieldU p 29 4, yieldLimit := fieldU p 33 4
          plateauLimit := fieldU p 37 4, fmaxPass := fieldU p 41 2, fracture := fieldU p 43 2
          minFracture := fieldU p 45 4, useBreak := fieldU p 49 1 == 1, gripSettle := fieldU p 50 2 }
      let fits := m.phaseCount ≤ 8 ∧ fieldU p 1 1 ≤ 1 ∧ fieldU p 2 1 ≤ 2 ∧ (fieldU p 2 1 = 0 ∨ fieldU p 3 1 ≤ 8) ∧
        (1 ≤ m.timeout ∧ m.timeout ≤ 60) ∧ m.guardMargin ≤ 8388607 ∧ m.slip ≤ 2147483647 ∧ fieldU p 14 1 ≤ 1 ∧
        (m.fitLower < m.fitUpper ∧ m.fitUpper ≤ 2147483647) ∧ (1 ≤ m.proofOffset ∧ m.proofOffset ≤ 2147483647) ∧
        (1 ≤ m.yieldDrop ∧ m.yieldDrop ≤ 999) ∧ m.transient ≤ 2147483647 ∧
        (1 ≤ m.yieldLimit ∧ m.yieldLimit ≤ 2147483647) ∧ (1 ≤ m.plateauLimit ∧ m.plateauLimit ≤ 2147483647) ∧
        (1 ≤ m.fmaxPass ∧ m.fmaxPass ≤ 999) ∧ (1 ≤ m.fracture ∧ m.fracture ≤ 999) ∧ m.minFracture ≤ 2147483647 ∧
        fieldU p 49 1 ≤ 1
      (fits → exec (.setMethod tag p) s = .next (replied 0x11 tag (.ok (methodBytes m))
        { s with seq := { s.seq with method := m } })) ∧
      (¬ fits → exec (.setMethod tag p) s = .next (replied 0x11 tag (.error .badValue) s))) ∧
    (∀ k : Fin 8, exec (.setPhase tag [BitVec.ofNat 8 k.val]) s =
      .next (replied 0x12 tag (.ok (phaseBytes (s.seq.phases.get k))) s)) ∧
    (∀ k : Fin 8, s.betweenTests = true → p.length = 15 → fieldU p 0 1 = k.val →
      let rate := fieldS p 2 4
      let vmax := fieldU p 6 4
      let arg := fieldU p 11 4
      (3 < fieldU p 1 1 ∨ 6 < fieldU p 10 1 →
        exec (.setPhase tag p) s = .next (replied 0x12 tag (.error .badValue) s)) ∧
      (∀ mode exit, [Mode.positionRate, .stressRate, .strainRate, .holdPosition][fieldU p 1 1]? = some mode →
        [ExitKind.monitor, .yieldDecided, .proofDecided, .fmaxPassed, .handoverDone, .time, .fractureOnly][fieldU p 10 1]? =
          some exit →
        let q : Phase :=
          { mode := mode, rate := if mode = .holdPosition then 0 else rate, vmax := min vmax s.store.cal.vmax
            exit := exit, arg := if exit = .monitor ∨ exit = .time then arg else 0 }
        let fits := vmax ≠ 0 ∧ (exit = .monitor → arg ≤ 7) ∧ (exit = .time → 1 ≤ arg ∧ arg ≤ 3600000)
        (fits → exec (.setPhase tag p) s = .next (replied 0x12 tag (.ok (phaseBytes q))
          { s with seq := { s.seq with phases := s.seq.phases.set k q } })) ∧
        (¬ fits → exec (.setPhase tag p) s = .next (replied 0x12 tag (.error .badValue) s)))) ∧
    (∀ k : Fin 8, s.betweenTests = false → p.length = 15 → fieldU p 0 1 = k.val →
      exec (.setPhase tag p) s = .next (replied 0x12 tag (.error .wrongState) s)) ∧
    (p.length = 1 → 7 < fieldU p 0 1 → exec (.setPhase tag p) s = .next (replied 0x12 tag (.error .badValue) s)) ∧
    (p.length = 15 → 7 < fieldU p 0 1 → exec (.setPhase tag p) s = .next (replied 0x12 tag
      (.error (if s.betweenTests = true then .badValue else .wrongState)) s)) ∧
    ((p.length = 1 ∨ p.length = 9) → 2 < fieldU p 0 1 →
      exec (.setLoop tag p) s = .next (replied 0x16 tag (.error .badValue) s)) ∧
    (exec (.setLoop tag [0]) s = .next (replied 0x16 tag (.ok (b4 s.loop.gPos.kp ++ b4 s.loop.gPos.ki)) s)) ∧
    (exec (.setLoop tag [1]) s = .next (replied 0x16 tag (.ok (b4 s.loop.gStress.kp ++ b4 s.loop.gStress.ki)) s)) ∧
    (exec (.setLoop tag [2]) s = .next (replied 0x16 tag (.ok (b4 s.loop.gStrain.kp ++ b4 s.loop.gStrain.ki)) s)) ∧
    (p.length = 9 → fieldU p 0 1 ≤ 2 →
      let g : Gains := { kp := fieldU p 1 4, ki := fieldU p 5 4 }
      exec (.setLoop tag p) s = .next (replied 0x16 tag (.ok (p.drop 1)) { s with loop := (
        if fieldU p 0 1 = 0 then { s.loop with gPos := g }
        else if fieldU p 0 1 = 1 then { s.loop with gStress := g } else { s.loop with gStrain := g }) }))

/-! ## Monitors, events and lines -/

/-- O40. SET_MONITOR (R151), SET_ROUTE (R157) and SET_OUTPUT (R164): a query reports the record; a record within its
lists replaces it whole, a monitor with the state of its enable and an output with its pulse ended; the refusals change
nothing. The model's choices in it: the monitor's kept firing value, and its BAD_VALUE before its WRONG_STATE (Log 47),
the flag bytes and ignored action bits (Log 18), and SET_OUTPUT's bytes, each checked whatever the source (Log 19). -/
def Obligations.LineSettings : Prop :=
  ∀ (tag : Byte) (p : List Byte) (s : State) (k : Fin 8), s.Receptive →
    exec (.setMonitor tag [BitVec.ofNat 8 k.val]) s =
      .next (replied 0x13 tag (.ok (monitorBytes (s.mon.bank.get k))) s) ∧
    exec (.setRoute tag [BitVec.ofNat 8 k.val]) s =
      .next (replied 0x14 tag (.ok (routeBytes (s.router.routes.get k))) s) ∧
    exec (.setOutput tag [BitVec.ofNat 8 k.val]) s =
      .next (replied 0x15 tag (.ok (outputBytes (s.outs.get k) ++ [if s.outLevel k then 1 else 0])) s) ∧
    ((p.length = 1 ∨ p.length = 14) → 7 < fieldU p 0 1 →
      exec (.setMonitor tag p) s = .next (replied 0x13 tag (.error .badValue) s)) ∧
    ((p.length = 1 ∨ p.length = 8) → 7 < fieldU p 0 1 →
      exec (.setRoute tag p) s = .next (replied 0x14 tag (.error .badValue) s)) ∧
    ((p.length = 1 ∨ p.length = 7) → 7 < fieldU p 0 1 →
      exec (.setOutput tag p) s = .next (replied 0x15 tag (.error .badValue) s)) ∧
    (p.length = 14 → fieldU p 0 1 = k.val → fieldU p 1 1 ≤ 1 → fieldU p 3 1 ≤ 1 → fieldU p 12 1 ≤ 1 →
      fieldU p 13 1 ≤ 1 →
      (∀ q, [Quantity.force, .stress, .strain, .primaryStrain, .secondaryStrain, .crossheadStrain, .position,
          .testTimeMs, .forcePerMilleOfPeak][fieldU p 2 1]? = some q →
        let m : Monitor :=
          { enable := fieldU p 1 1 == 1, quantity := q, falling := fieldU p 3 1 == 1, threshold := fieldS p 4 4,
            hysteresis := fieldU p 8 4, rearm := fieldU p 12 1 == 1, always := fieldU p 13 1 == 1,
            state := if fieldU p 1 1 = 1 then .armed else .disabled, value := (s.mon.bank.get k).value }
        exec (.setMonitor tag p) s = .next (if s.testing = true then replied 0x13 tag (.error .wrongState) s
          else replied 0x13 tag (.ok (monitorBytes m)) { s with mon := { s.mon with bank := s.mon.bank.set k m } })) ∧
      (8 < fieldU p 2 1 → exec (.setMonitor tag p) s = .next (replied 0x13 tag (.error .badValue) s))) ∧
    (p.length = 8 → fieldU p 0 1 = k.val → fieldU p 1 1 ≤ 1 → fieldU p 5 1 ≤ 1 →
      let r : Route :=
        { enable := fieldU p 1 1 == 1, code := fieldU p 2 2, len := fieldU p 4 1, silent := fieldU p 5 1 == 1,
          mark := (fieldU p 6 1).testBit 0, hold := (fieldU p 6 1).testBit 1, mask := BitVec.ofNat 8 (fieldU p 7 1) }
      exec (.setRoute tag p) s = .next (if 16 < fieldU p 4 1 then replied 0x14 tag (.error .badValue) s
        else replied 0x14 tag (.ok (routeBytes r)) { s with router := { s.router with routes := s.router.routes.set k r } })) ∧
    (p.length = 7 → fieldU p 0 1 = k.val →
      (∀ source signal, [OutSource.low, .high, .status signal, .pulse][fieldU p 1 1]? = some source →
        [Signal.testRunning, .crossheadMoving, .removeRequest, .held, .anyFault, .fractured, .loadLocked,
          .monitorFired (Fin.ofNat 8 (fieldU p 3 1))][fieldU p 2 1]? = some signal →
        fieldU p 3 1 ≤ 7 → fieldU p 4 1 ≤ 1 → 1 ≤ fieldU p 5 2 → fieldU p 5 2 ≤ 1000 →
        let o : Output := { source := source, invert := fieldU p 4 1 == 1, width := fieldU p 5 2, pulse := none }
        exec (.setOutput tag p) s = .next (replied 0x15 tag (.ok (outputBytes o)) { s with outs := s.outs.set k o })) ∧
      (3 < fieldU p 1 1 ∨ 7 < fieldU p 2 1 ∨ 7 < fieldU p 3 1 ∨ 1 < fieldU p 4 1 ∨ fieldU p 5 2 = 0 ∨
          1000 < fieldU p 5 2 →
        exec (.setOutput tag p) s = .next (replied 0x15 tag (.error .badValue) s)))

/-- O41. One event is routed (R156, R158, R159, R160), shown on a TRIGGER request while the line sends a frame, over any
route table, with a MARK only where no gap is pending. Where no entry matches, the event is offered as a notice, stamped
with mill time and phase, with the losses before it, or counted as lost where 32 wait. Every enabled entry whose leading
bits agree to its compared length matches: the one of highest index decides between NOTIFY and SILENT; MARK, HOLD and
the pulses of each line of source PULSE (R166) are taken where any of them names one. A MARK record takes a place in the
ring where it has room (10 R192). HOLD adds ROUTE to the set of a RUNNING test, which is HELD (R136) on its position
(05 R101), or of a HELD one that lacks it, and is a setup stop of a move out of a test (R81), with nothing to stop at
rest; HELD(ROUTE) or SETUP_STOPPED is then routed by the same table. The model's choices in it: the MARK stored before
the HOLD acts (Log 60), the source of the record, the one in force as it is stored (Log 51), and the loop's last
measured value, updated at its rebase (Log 36). -/
def Obligations.EventBecomesNotice : Prop :=
  ∀ (tag b : Byte) (s : State), s.Receptive → s.host.tx ≠ .idle → b.toNat ≤ 15 →
    (s.motion.state ≠ .standby ∨ s.motion.waitingHead = none) → s.seq.state ≠ .armed →
    (s.log.state = .stopped ∨ s.log.state = .running) →
    let e : EventRecord :=
      { code := 0x0A10 + b.toNat, sec := s.time.sec, ns := s.time.ns, value := 0
        phase := if s.testing = true then s.seq.phase.val else 255, lost := 0 }
    let noMark := ∀ k : Fin 8, (s.router.routes.get k).enable = true → (s.router.routes.get k).mark = false
    ((∀ k, ¬ s.Hit k e.code) →
      exec (.trigger tag [b]) s = .next (replied 0x28 tag (.ok []) { s with router := s.router.offered e })) ∧
    (s.log.gap = 0 ∨ noMark →
      (¬ s.HeldBy e.code → exec (.trigger tag [b]) s = .next (replied 0x28 tag (.ok []) (s.routed e))) ∧
      (s.HeldBy e.code → s.seq.state = .running → s.seq.held = HeldSet.empty →
        exec (.trigger tag [b]) s = .next (replied 0x28 tag (.ok []) (State.routed (s.event 0x0622 1) { s.routed e with
          seq := { s.seq with
            state := .held, held := { HeldSet.empty with route := true }, heldSince := some s.time.crystal }
          loop := { s.loop with
            mode := some .holdPosition, rate := 0, acc := 2000 * s.position, target := s.position, meas := s.position
            integ := max (-(s.motion.ceiling : Int)) (min (s.motion.ceiling : Int) s.motion.lastDemand)
            prev := s.motion.lastDemand } }))) ∧
      (s.HeldBy e.code → s.seq.state = .held → exec (.trigger tag [b]) s = .next (replied 0x28 tag (.ok []) (
        let held : HeldSet := { s.seq.held with route := true }
        if s.seq.held.route = true then s.routed e
        else State.routed (s.event 0x0622 held.count) { s.routed e with seq := { s.seq with held := held } }))) ∧
      (s.HeldBy e.code → s.betweenTests = true → s.motion.state = .move → s.motion.lastDemand ≠ 0 →
        ∃ t, exec (.trigger tag [b]) s = .next (replied 0x28 tag (.ok []) t) ∧
          t = State.routed (s.event 0x0405 s.motion.queue.length)
            { s.routed e with motion := t.motion, prot := { s.prot with blanking := t.prot.blanking } } ∧
          t.motion = { s.motion with
            state := .stopping, dest := some .standby, queue := [], jog := none, keepalive := none
            driveEn := s.estopClosed, lastDemand := if s.estopClosed = true then s.motion.lastDemand else 0
            ceiling := t.motion.ceiling }) ∧
      (s.HeldBy e.code → s.inTest = false →
        (s.motion.state = .standby ∨ s.motion.state = .off ∨ s.motion.state = .stopping ∨ s.motion.state = .fault) →
        exec (.trigger tag [b]) s = .next (replied 0x28 tag (.ok []) (s.routed e))))

/-! ## Sample Log and Time Base -/

/-- O42. The log interval expires (R190, R191), with no route enabled and the line as the arbiter leaves it (O54): the
timer restarts with the interval in force, and the sample is issued its number and stored with the values of the moment
(R187), or skipped where the ring is full or keeps its last slot for the GAP, with LOG_GAPS set in a test (R183), or
stored behind the GAP record, whose event GAP becomes a notice. With streaming off, or a frame being sent, or a reset
waiting, the stored sample stays in the ring; with streaming on and the line idle it leaves at once in a batch (R193),
or waits behind the notice of GAP (R202). Once every number has been issued the log stops with LOG_STOPPED 3, and a
pending GAP takes a free slot. A record's source is the one in force as the record is formed (R187), also where R30's
set had another, which is the model's reading (Log 51). That LOG_STOPPED precedes GAP is the model's choice (Log 54). -/
def Obligations.LogIntervalExpiry : Prop :=
  ∀ (s : State) (d : Nat), s.Quiet → s.log.due = some d → s.log.state = .running →
    let next := some (d + s.log.interval * 500)
    let rec_ := fun (kind : LogKind) (number : Nat) (f g h p : Int) =>
      ({ kind := kind, held := s.seq.state == .held, inFlight := s.ext.removal.inFlight, fractured := s.seq.fractured,
         source := s.strain.source, phase := if s.testing = true then s.seq.phase.val else 255, seqNo := number,
         testTime := s.time.testTime, force := f, stress := g, strain := h, position := p } : LogRecord)
    let sample := rec_ .sample s.log.seqNo s.force.f s.strain.stress s.strain.active s.position
    let free := s.host.tx = .idle ∧ s.host.resetPending = none
    (s.log.seqNo ≤ 4294967295 → s.NoRoute → s.LineServed → s.log.gap = 0 → s.log.ring.length < 4096 →
      exec .logIntervalExpiry s = .next (
        if free ∧ s.log.stream = true then { s with
          log := { s.log with due := next, seqNo := s.log.seqNo + 1, ring := [] }
          host := { s.host with tx := .batch [sample] } }
        else { s with log := { s.log with
          due := next, seqNo := s.log.seqNo + 1, ring := s.log.ring ++ [sample] } })) ∧
    (s.log.seqNo ≤ 4294967295 → s.NoRoute → s.LineServed →
      (s.log.gap = 0 ∧ s.log.ring.length = 4096) ∨ (s.log.gap ≠ 0 ∧ 4095 ≤ s.log.ring.length) →
      ∃ t, exec .logIntervalExpiry s = .next t ∧
        t = { s with
          log := { s.log with
            due := next, seqNo := s.log.seqNo + 1, gap := min 4294967295 (s.log.gap + 1),
            firstSkipped := if s.log.gap = 0 then s.log.seqNo else s.log.firstSkipped }
          result := t.result } ∧
        (s.testing = false → t.result = s.result) ∧
        (s.testing = true → ∀ r, s.result.record = some r → r.closed = false →
          t.result = { s.result with record := some { r with flags := { r.flags with logGaps := true } } })) ∧
    (s.log.seqNo ≤ 4294967295 → s.NoRoute → s.LineServed → s.log.gap ≠ 0 → s.log.ring.length < 4095 →
      let gap := { s.event 0x0901 s.log.gap with lost := s.router.lost }
      exec .logIntervalExpiry s = .next { s with
        log := { s.log with
          due := next, seqNo := s.log.seqNo + 1, gap := 0,
          ring := s.log.ring ++ [rec_ .gap s.log.firstSkipped s.log.gap 0 0 0, sample] }
        router :=
          if free then { s.router with lost := 0 }
          else if s.router.notices.length < 32 then { s.router with notices := s.router.notices ++ [gap], lost := 0 }
          else { s.router with lost := min 65535 (s.router.lost + 1) }
        host := if free then { s.host with tx := .notice gap } else s.host }) ∧
    (4294967295 < s.log.seqNo →
      let stored := s.log.gap ≠ 0 ∧ s.log.ring.length < 4096
      exec .logIntervalExpiry s = .next (settle { s with
        log := { s.log with
          state := .stopped, due := none, gap := if stored then 0 else s.log.gap
          ring := if stored then s.log.ring ++ [rec_ .gap s.log.firstSkipped s.log.gap 0 0 0] else s.log.ring }
        router := { s.router with raised := if stored then
            [s.event 0x0903 3, s.event 0x0901 s.log.gap] else [s.event 0x0903 3] } }))

/-- O43. LOG_START and LOG_STOP (R188), READ_LOG and STREAM (R193), SET_LOG (R190), and a pending GAP in them (R191):
while the log runs, records that leave the ring make no room for it; once the log is not RUNNING, the GAP record takes
the first free slot, of the log's stop or of the records read, and GAP is raised (there no route is enabled). The
model's choices in it: the byte of STREAM (Log 18), and LOG_STOPPED before GAP (Log 54); the record's source is the one
in force as it is formed, the model's reading (Log 51). -/
def Obligations.LogRequests : Prop :=
  ∀ (tag b : Byte) (s : State), s.Receptive →
    let gapRecord : LogRecord :=
      { kind := .gap, held := s.seq.state == .held, inFlight := s.ext.removal.inFlight, fractured := s.seq.fractured
        source := s.strain.source
        phase := if s.testing = true then s.seq.phase.val else 255, seqNo := s.log.firstSkipped
        testTime := s.time.testTime, force := s.log.gap, stress := 0, strain := 0, position := 0 }
    exec (.logStart tag [b]) s = (
      if 15 < b.toNat then .next (replied 0x31 tag (.error .badValue) s)
      else if s.testing = true then .next (replied 0x31 tag (.error .wrongState) s)
      else if s.log.state ≠ .stopped then .next (replied 0x31 tag (.error .wrongState) s)
      else if b = 0 then .next (settle (answered 0x31 tag (.ok []) { s with
        log := { s.log with state := .running, due := some (s.time.crystal + s.log.interval * 500) }
        router := { s.router with raised := [s.event 0x0902 s.log.seqNo] } }))
      else .next (replied 0x31 tag (.ok []) { s with log := { s.log with state := .waiting b.toNat } })) ∧
    (s.testing = true → exec (.logStop tag []) s = .next (replied 0x32 tag (.error .wrongState) s)) ∧
    (s.testing = false → s.log.state = .stopped → exec (.logStop tag []) s = .next (replied 0x32 tag (.ok []) s)) ∧
    (s.testing = false → s.log.state ≠ .stopped → s.log.gap = 0 →
      exec (.logStop tag []) s = .next (settle (answered 0x32 tag (.ok []) { s with
        log := { s.log with state := .stopped, due := none }
        router := { s.router with raised := [s.event 0x0903 1] } }))) ∧
    (s.testing = false → s.log.state ≠ .stopped → s.log.gap ≠ 0 →
      exec (.logStop tag []) s = .next (settle (answered 0x32 tag (.ok []) { s with
        log := if s.log.ring.length < 4096 then
            { s.log with state := .stopped, due := none, gap := 0, ring := s.log.ring ++ [gapRecord] }
          else { s.log with state := .stopped, due := none }
        router := { s.router with raised := if s.log.ring.length < 4096 then
            [s.event 0x0903 1, s.event 0x0901 s.log.gap] else [s.event 0x0903 1] } }))) ∧
    ((b.toNat = 0 ∨ 8 < b.toNat) → exec (.readLog tag [b]) s = .next (replied 0x33 tag (.error .badValue) s)) ∧
    (1 ≤ b.toNat → b.toNat ≤ 8 → s.log.gap ≠ 0 → s.log.state ≠ .running → s.log.ring ≠ [] →
      s.log.ring.length ≤ 4096 →
      exec (.readLog tag [b]) s = .next (settle (answered 0x33 tag
        (.ok ((s.log.ring.take b.toNat).flatMap logRecordBytes))
        { s with
          log := { s.log with gap := 0, ring := s.log.ring.drop b.toNat ++ [gapRecord] }
          router := { s.router with raised := [s.event 0x0901 s.log.gap] } }))) ∧
    (1 ≤ b.toNat → b.toNat ≤ 8 → (s.log.gap = 0 ∨ s.log.state = .running) →
      exec (.readLog tag [b]) s = .next (replied 0x33 tag
        (.ok ((s.log.ring.take b.toNat).flatMap logRecordBytes))
        { s with log := { s.log with ring := s.log.ring.drop b.toNat } })) ∧
    (∀ on : Bool, exec (.stream tag [if on then 1 else 0]) s =
      .next (replied 0x34 tag (.ok [if on then 1 else 0]) { s with log := { s.log with stream := on } })) ∧
    (exec (.setLog tag []) s = .next (replied 0x35 tag (.ok (b2 s.log.interval)) s)) ∧
    (∀ h l : Byte,
      let v := min 2000 (max 1 (h.toNat * 256 + l.toNat))
      exec (.setLog tag [h, l]) s =
        .next (replied 0x35 tag (.ok (b2 v)) { s with log := { s.log with interval := v } }))

/-- O44. SET_TIME, ADJUST_TIME and READ_TIME (R197) and TRIM_TIME (R196). -/
def Obligations.TimeRequests : Prop :=
  ∀ (tag : Byte) (p : List Byte) (s : State), s.Receptive →
    (p.length = 8 → exec (.setTime tag p) s = .next (
      if 999999999 < fieldU p 4 4 then replied 0x38 tag (.error .badValue) s
      else replied 0x38 tag (.ok [])
        { s with time := { s.time with sec := fieldU p 0 4, ns := fieldU p 4 4, frac := 0 } })) ∧
    (p.length = 8 → ∃ t, exec (.adjustTime tag p) s = .next (replied 0x39 tag (.ok []) t) ∧
      t = { s with time := { s.time with sec := t.time.sec, ns := t.time.ns } } ∧
      t.time.ns < 1000000000 ∧ t.time.sec < 4294967296 ∧
      ∃ wraps : Int, (t.time.sec : Int) * 1000000000 + t.time.ns + wraps * (4294967296 * 1000000000) =
        (s.time.sec : Int) * 1000000000 + s.time.ns + fieldS p 0 8) ∧
    (p.length = 4 →
      let trim := max (-100000) (min 100000 (fieldS p 0 4))
      exec (.trimTime tag p) s = .next (replied 0x3A tag (.ok (i4 trim)) { s with time := { s.time with
        trim := trim, step := (roundDiv (4294967296000 * (1000000000 + trim)) 1000000000).toNat } })) ∧
    exec (.readTime tag []) s = .next (replied 0x3B tag
      (.ok (b4 s.time.sec ++ b4 s.time.ns ++ b4 s.time.testTime ++ i4 s.time.trim)) s)

/-- O45. The Time Base's own arrivals. A microsecond adds the step to mill time as one number of 2^-32 ns, with the
seconds modulo 2^32 (R196), and to a running test time 1 µs, saturating (R195). The next whole millisecond of a running
test time is given to the monitors (R153), here to none of its quantity or to one that it fires (R154). The model's
choices in it: the microsecond's arrival moves test time too, and the millisecond's arrival gives the next whole one of
it (Log 3); with the test time stopped the millisecond's arrival changes nothing (Log 2). -/
def Obligations.TimeBaseSteps : Prop :=
  ∀ s : State,
    (∃ t, exec .millTimeStep s = .next t ∧
      t = { s with time := { s.time with
        sec := t.time.sec, ns := t.time.ns, frac := t.time.frac, crystal := s.time.crystal + 1,
        testTime := if s.time.testRunning = true then min 4294967295 (s.time.testTime + 1) else s.time.testTime } } ∧
      t.time.sec < 4294967296 ∧ t.time.ns < 1000000000 ∧ t.time.frac < 4294967296 ∧
      ∃ wraps : Nat, (t.time.sec * 1000000000 + t.time.ns) * 4294967296 + t.time.frac +
          wraps * (4294967296 * 1000000000 * 4294967296) =
        (s.time.sec * 1000000000 + s.time.ns) * 4294967296 + s.time.frac + s.time.step) ∧
    (s.time.testRunning = false → exec .testTimeMsTick s = .next s) ∧
    (s.Quiet → s.time.testRunning = true → (s.time.msSeen + 1) * 1000 ≤ s.time.testTime →
      s.time.testTime ≤ 4294967295 → (∀ k, (s.mon.bank.get k).quantity ≠ .testTimeMs) → s.host.tx ≠ .idle →
      exec .testTimeMsTick s = .next { s with time := { s.time with msSeen := s.time.msSeen + 1 } }) ∧
    (∀ k : Fin 8, s.Quiet → s.NoHoldRoute → s.time.testRunning = true →
      (s.time.msSeen + 1) * 1000 ≤ s.time.testTime → s.time.testTime ≤ 4294967295 →
      (s.mon.bank.get k).quantity = .testTimeMs → (s.mon.bank.get k).enable = true →
      (s.mon.bank.get k).always = true → (s.mon.bank.get k).state = .armed → (s.mon.bank.get k).falling = false →
      (s.mon.bank.get k).threshold ≤ s.time.msSeen + 1 → s.inTest = false →
      ∃ t, exec .testTimeMsTick s = .next t ∧ (t.mon.bank.get k).state = .fired ∧
        (t.mon.bank.get k).value = s.time.msSeen + 1)

/-! ## Host link and Calibration Store -/

/-- O46. The frame layout and the receiver agree (R199, R200): the characters of the frame of any kind, TAG and payload
of at most 232 bytes, taken one by one from HUNT with room for a reply, are that good frame, taken whole once by the
kind's owner. -/
def Obligations.FrameRoundTrip : Prop :=
  ∀ (kind tag : Byte) (payload : List Byte) (s : State), s.Listening → payload.length ≤ 232 →
    (cleanChars (frameBytes kind tag payload)).foldl hostChar s =
      goodRequest kind.toNat tag payload (handlerOf kind.toNat) s

/-- O47. What the host receiver counts and discards (R200): a frame whose two last bytes are not its CRC; a LEN above
232; a stop-bit error within a frame; a gap within a frame; a 0xD5 in HUNT with 16 replies pending. None is answered and
nothing else changes; in HUNT a gap is nothing. The model's choices in it: a reply being sent counts among the 16 until
its last byte has left (Log 20), and the overrun's arrival with room for a reply starts a frame (Log 35). -/
def Obligations.ReceiverErrors : Prop :=
  ∀ s : State, s.host.resetPending = none →
    (∀ (kind tag c1 c0 : Byte) (payload : List Byte), s.host.rx = .hunt → s.host.replies.length < 16 →
      payload.length ≤ 232 → c1.toNat * 256 + c0.toNat ≠ crc16 (BitVec.ofNat 8 payload.length :: kind :: tag :: payload) →
      exec (.hostFrameCrcError
        (cleanChars (0xD5 :: BitVec.ofNat 8 payload.length :: kind :: tag :: payload ++ [c1, c0]))) s =
        .next { s with host := { s.host with crcErrors := min 4294967295 (s.host.crcErrors + 1) } }) ∧
    (∀ len : Byte, s.host.rx = .hunt → s.host.replies.length < 16 → 232 < len.toNat →
      exec (.hostFramingError (cleanChars [0xD5, len])) s =
        .next { s with host := { s.host with framingErrors := min 4294967295 (s.host.framingErrors + 1) } }) ∧
    (∀ b : Byte, s.host.rx ≠ .hunt →
      exec (.hostFramingError [{ byte := b, stopErr := true }]) s =
        .next { s with host := { s.host with
          rx := .hunt, framingErrors := min 4294967295 (s.host.framingErrors + 1) } }) ∧
    (exec .hostCharGapTimeout s = .next (if s.host.rx = .hunt then s
      else { s with host := { s.host with
        rx := .hunt, framingErrors := min 4294967295 (s.host.framingErrors + 1) } })) ∧
    (s.host.rx = .hunt → exec .hostSofOverrun s = .next { s with host := (
      if s.host.replies.length < 16 then { s.host with rx := .header [] }
      else { s.host with overruns := min 4294967295 (s.host.overruns + 1) }) })

/-- O48. The checks before any owner (R201): a good frame of a kind outside the catalogue is refused with UNKNOWN_KIND;
a request of the catalogue with a LEN not allowed for its kind with BAD_LENGTH, in INIT too; and in INIT every request
but IDENTIFY with BUSY. Each refusal is one reply and nothing else changes. -/
def Obligations.RequestsRefusedBeforeTheirOwner : Prop :=
  (∀ (kind tag : Byte) (payload : List Byte) (s : State), s.Quiet → s.Listening → payload.length ≤ 232 →
    lengthsOf kind.toNat = none →
    exec (.hostUnknownRequest kind tag payload) s = .next (replied kind.toNat tag (.error .unknownKind) s)) ∧
  (∀ (c : Instr) (kind : Nat) (tag : Byte) (payload : List Byte) (s : State), s.Quiet → s.Listening →
    asRequest c = some (kind, tag, payload) → payload.length ≤ 232 →
    (∃ ls, lengthsOf kind = some ls ∧
      (payload.length ∉ ls → exec c s = .next (replied kind tag (.error .badLength) s)) ∧
      (payload.length ∈ ls → s.store.ready = false → kind ≠ 1 →
        exec c s = .next (replied kind tag (.error .busy) s))))

/-- O49. The requests that report: IDENTIFY in every state (R204), STATUS with its clear option (R205, R16), STATS with
its clear option and the thresholds of the three links, set before the reply is formed and the clear made after it
(R206, R9), GET_CAL (R208) and READ_RESULT (R184); and the requests RESET and RESTART, which only begin to wait for their
acceptance to leave (R210). The model's choices in it: the flag and option bytes (Log 18), the layouts of STATUS and STATS
(Log 19), and the design revision (Log 16). -/
def Obligations.ReportsAndResetRequests : Prop :=
  ∀ (tag : Byte) (s : State), s.Listening → s.Quiet →
    let counted := fun u : State => { u with host := { u.host with goodFrames := satU32 (u.host.goodFrames + 1) } }
    let zeroed := fun r : Receiver =>
      { r with goodFrames := 0, badFrames := 0, missedFrames := 0, errCount := 0, reported := false }
    let cleared := fun u : State => { u with
      links := { slr0 := zeroed u.links.slr0, slr1 := zeroed u.links.slr1, slr2 := zeroed u.links.slr2 }
      motion := { u.motion with encErrors := 0 }
      host := { u.host with goodFrames := 0, crcErrors := 0, framingErrors := 0, overruns := 0, framesSent := 0 } }
    (exec (.identify tag []) s = .next (replied 0x01 tag (.ok ([0x48, 0x20, Config.designRevision] ++
      (if s.store.ready = true then s.store.cal.serial else [0, 0, 0, 0, 0, 0, 0, 0]) ++
      [if s.store.ready then 1 else 0, if s.store.calValid then 1 else 0, if s.store.calUnsaved then 1 else 0,
        if s.store.save.isSome then 1 else 0])) s)) ∧
    (s.store.ready = true →
      (∀ g o : Byte, exec (.status tag [g, o]) s = .next (
        if 5 < g.toNat then replied 0x02 tag (.error .badValue) s
        else replied 0x02 tag (.ok (statusGroup g.toNat s)) (if o.getLsbD 0 = true then
          { s with force := { s.force with
              latchOver := s.force.latchOver && s.force.liveOver
              latchNear := s.force.latchNear && s.force.liveNear } } else s))) ∧
      (∀ o : Byte, exec (.stats tag [o]) s = .next (
        let t := replied 0x03 tag (.ok (statsBytes (counted s))) s
        if o.getLsbD 0 = true then cleared t else t)) ∧
      (∀ p : List Byte, p.length = 10 →
        let mark := fun n : Nat => fieldU p (1 + 3 * n) 1
        let value := fun n : Nat => fieldU p (2 + 3 * n) 2
        let set := fun (n : Nat) (r : Receiver) =>
          if mark n = 1 then { r with errThreshold := value n, reported := false } else r
        let u := { s with links :=
          { slr0 := set 0 s.links.slr0, slr1 := set 1 s.links.slr1, slr2 := set 2 s.links.slr2 } }
        let t := replied 0x03 tag (.ok (statsBytes (counted u))) u
        ((∃ n, n ≤ 2 ∧ (1 < mark n ∨ (mark n = 1 ∧ value n = 0))) →
          exec (.stats tag p) s = .next (replied 0x03 tag (.error .badValue) s)) ∧
        ((∀ n, n ≤ 2 → mark n = 0 ∨ (mark n = 1 ∧ 1 ≤ value n)) →
          exec (.stats tag p) s = .next (if (fieldU p 0 1).testBit 0 = true then cleared t else t))) ∧
      exec (.getCal tag []) s = .next (replied 0x08 tag (.ok (calBytes s.store.cal ++ [BitVec.ofNat 8
        ((if s.store.calValid then 1 else 0) + (if s.store.calUnsaved then 2 else 0) +
          (if s.store.save.isSome then 4 else 0))])) s) ∧
      (exec (.readResult tag []) s = .next (match s.result.record with
        | none => replied 0x30 tag (.error .wrongState) s
        | some r => if s.seq.state = .idle ∨ s.seq.state = .armed then replied 0x30 tag (.error .wrongState) s
          else replied 0x30 tag (.ok (resultBytes r)) s)) ∧
      exec (.reset tag []) s = .next (replied 0x3E tag (.ok [])
        { s with host := { s.host with resetPending := some .reset } }) ∧
      exec (.restart tag []) s = .next (replied 0x3F tag (.ok [])
        { s with host := { s.host with resetPending := some .restart } }))

/-- O50. SET_CAL (R208): its checks in order, each field against the accepted values of its table. Accepted, the working
copy is the record with its clamped fields clamped, CAL_UNSAVED is set, and CAL_VALID stays only where the copy is
usable; the acceptance carries the copy. A tare in flight fails with TARE_FAILED 4 where any Z_r, G_r or Fcap differs
from the value in use (01 R19), and the force stands otherwise. Where no input's asserted level changes with the invert
flags, that is all but the velocity ceiling, formed again from the new machine vmax, the motion's own speed and, while
SLR0 is not LOCKED or CAL_VALID is false, the new blind speed (04 R70, R71), with BLIND_SPEED_ON or BLIND_SPEED_OFF where
that condition changes. The model's choices in it: the machine vmax and the blind speed read unsigned before they are
clamped (Log 22), and the order of the two events (Log 53). -/
def Obligations.SetCal : Prop :=
  ∀ (tag : Byte) (p : List Byte) (s : State), s.Receptive → p.length = 106 →
    let no := fun r => Host.Outcome.next (replied 0x09 tag (.error r) s)
    let filter := fun k : Nat => min (fieldU p (86 + k) 1) 20
    let inverted := fun k : Nat => (fieldU p 94 1).testBit k
    let c : Calibration :=
      { range0 := ⟨fieldS p 0 4, fieldS p 16 4⟩, range1 := ⟨fieldS p 4 4, fieldS p 20 4⟩
        range2 := ⟨fieldS p 8 4, fieldS p 24 4⟩, range3 := ⟨fieldS p 12 4, fieldS p 28 4⟩
        fcap := fieldU p 32 4, flim := fieldU p 36 4, pitchPrim := fieldS p 40 4, pitchSec := fieldS p 44 4
        travelPrim := fieldU p 48 4, travelSec := fieldU p 52 4, encPitch := fieldS p 56 4, compliance := fieldU p 60 4
        vmax := min (fieldU p 64 4) 8388607, amax := fieldU p 68 4, stopDecel := fieldU p 72 4
        dwellMs := max 1 (min 100 (fieldU p 76 1)), blindSpeed := min (fieldU p 77 4) 8388607
        blankingMs := fieldU p 81 1, retryEnable := fieldU p 82 1 == 1, offTimeMs := fieldU p 83 2
        retryLimit := fieldU p 85 1
        filterMs := ⟨filter 0, filter 1, filter 2, filter 3, filter 4, filter 5, filter 6, filter 7⟩
        invert := ⟨inverted 0, inverted 1, inverted 2, inverted 3, inverted 4, inverted 5, inverted 6, inverted 7⟩
        keepaliveMs := fieldU p 95 2, triggerIn := fieldU p 97 1, serial := (p.drop 98).take 8 }
    let accepted := c.fcap ≤ 2147483647 ∧ c.flim ≤ c.fcap ∧ c.travelPrim ≤ 2147483647 ∧ c.travelSec ≤ 2147483647 ∧
      c.compliance ≤ 2147483647 ∧ (1 ≤ c.amax ∧ c.amax ≤ 100000000) ∧ (1 ≤ c.stopDecel ∧ c.stopDecel ≤ 100000000) ∧
      (c.blankingMs = 1 ∨ c.blankingMs = 5 ∨ c.blankingMs = 20 ∨ c.blankingMs = 100) ∧ fieldU p 82 1 ≤ 1 ∧
      (c.offTimeMs = 100 ∨ c.offTimeMs = 250 ∨ c.offTimeMs = 500 ∨ c.offTimeMs = 1000) ∧
      (1 ≤ c.retryLimit ∧ c.retryLimit ≤ 7) ∧ (50 ≤ c.keepaliveMs ∧ c.keepaliveMs ≤ 2000) ∧ c.triggerIn ≤ 15
    let old := s.store.cal
    let tareFails := c.range0 ≠ old.range0 ∨ c.range1 ≠ old.range1 ∨ c.range2 ≠ old.range2 ∨ c.range3 ≠ old.range3 ∨
      c.fcap ≠ old.fcap
    (¬ accepted → exec (.setCal tag p) s = no .badValue) ∧
    (accepted → s.betweenTests = false → exec (.setCal tag p) s = no .wrongState) ∧
    (accepted → s.betweenTests = true → s.store.save ≠ none → exec (.setCal tag p) s = no .busy) ∧
    (accepted → s.betweenTests = true → s.store.save = none →
      ∃ t, exec (.setCal tag p) s = .next t ∧
        t.store = { s.store with
          cal := c, calUnsaved := true,
          calValid := s.store.calValid && (c.fcap != 0 && c.flim != 0 && c.range0.gain != 0) } ∧
        t.host.replies = s.host.replies ++ [replyOf 0x09 tag (.ok (calBytes c))] ∧
        (∀ k, (t.ins.get k).asserted = ((s.ins.get k).filtered != c.invert.get k)) ∧ t.links = s.links ∧
        t.motion.encCount = s.motion.encCount ∧ t.seq.method = s.seq.method ∧
        t.force = if tareFails then { s.force with tareOp := none } else s.force) ∧
    (accepted → s.betweenTests = true → s.store.save = none → s.motion.state ≠ .test →
      (∀ k, (s.ins.get k).asserted = ((s.ins.get k).filtered != c.invert.get k)) →
      let valid := s.store.calValid && (c.fcap != 0 && c.flim != 0 && c.range0.gain != 0)
      let blind := s.links.slr0.lock != .locked || !valid
      let head : Option Nat := match s.motion.queue with
        | seg :: _ => if seg.started = true then some seg.speed else none
        | [] => none
      let jog := s.motion.jog.map (fun j => j.speed)
      let own : Option Nat := match s.motion.state with
        | .move => head
        | .jog => jog
        | .retryWait => if head.isSome then head else jog
        | .off | .standby | .test | .stopping | .fault => none
      let top := if blind = true then min c.vmax c.blindSpeed else c.vmax
      let ceiling := match own with | some v => min v top | none => top
      exec (.setCal tag p) s = .next (settle (answered 0x09 tag (.ok (calBytes c)) { s with
        store := { s.store with cal := c, calUnsaved := true, calValid := valid }
        force := if tareFails then { s.force with tareOp := none } else s.force
        motion := { s.motion with blind := blind, ceiling := ceiling }
        router := { s.router with raised :=
          (if tareFails ∧ s.force.tareOp ≠ none then [s.event 0x0205 4] else []) ++
          (if blind = s.motion.blind then [] else [s.event (if blind = true then 0x0508 else 0x0509) ceiling]) } })))

/-- O51. SAVE_CAL and SAVE_END (R209). SAVE_CAL puts the block of the working copy in flight behind its checks. A save
that reads back what it wrote makes the calibration valid and saved; another leaves CAL_VALID as it stood and
CAL_UNSAVED set; either stores what was read back. That the end of a save with none in flight changes nothing is the
model's choice (Log 2). -/
def Obligations.SaveCalAndSaveEnd : Prop :=
  ∀ (tag : Byte) (s : State),
    (s.Receptive → exec (.saveCal tag []) s = .next (
      if s.store.save ≠ none then replied 0x0A tag (.error .busy) s
      else if s.store.cal.fcap = 0 ∨ s.store.cal.flim = 0 ∨ s.store.cal.range0.gain = 0 then
        replied 0x0A tag (.error .badValue) s
      else replied 0x0A tag (.ok []) { s with store := { s.store with save := some (blockOf s.store.cal) } })) ∧
    (∀ block, s.store.save = some block → s.Quiet → s.NoHoldRoute → s.motion.state ≠ .test →
      ∃ t, exec (.saveEnd block) s = .next t ∧
        t = { s with
          store := { s.store with save := none, nv := .bytes block, calValid := true, calUnsaved := false }
          motion := { s.motion with ceiling := t.motion.ceiling, blind := !(s.links.slr0.lock == .locked) }
          router := t.router, log := t.log, outs := t.outs, host := t.host }) ∧
    (∀ block back, s.store.save = some block → back ≠ block → s.Quiet →
      exec (.saveEnd back) s = .next (settle { s with
        store := { s.store with save := none, nv := .bytes back, calUnsaved := true }
        router := { s.router with raised := [s.event 0x0B04 1] } })) ∧
    (∀ back, s.store.save = none → exec (.saveEnd back) s = .next s)

/-- O52. The calibration load ends (R207, R162): on a matching CRC the stored record is the working copy, valid and
saved; otherwise the defaults are, not valid and unsaved, and so they are for a block whose write a reset cut short
(R209); the controller is READY, and the inputs take their raw levels under the working copy's invert flags. CAL_LOADED
carries the stored CRC and CAL_BAD the CRC as formed. With the motion at rest, as it is while the load runs, the blind
mark and the ceiling are formed from the new working copy: blind while SLR0 is not LOCKED or CAL_VALID is false, and the
ceiling then the lesser of the machine vmax and the blind speed (R71, R70); a change of the mark is reported. The
model's choices in it: the end of a load out of INIT, where none runs, changes nothing (Log 2); the value of CAL_LOADED
and CAL_BAD is the CRC's bit pattern, read as two's complement (Log 26); the CRC formed over a torn block is a free
value (Log 16); a stored retry enable other than 1 reads as not enabled (Log 63); and the change of the blind mark is
reported in that arrival (Log 47). -/
def Obligations.CalLoadEnd : Prop :=
  ∀ s : State,
    (s.store.ready = true → exec .calLoadEnd s = .next s) ∧
    (∀ bs, s.store.nv = .bytes bs → s.store.ready = false → crc32 (bs.take 508) = natOf (bs.drop 508) →
      ∃ t, exec .calLoadEnd s = .next t ∧
        t.store = { s.store with ready := true, cal := calOf bs, calValid := true, calUnsaved := false }) ∧
    (∀ bs, s.store.nv = .bytes bs → s.store.ready = false → crc32 (bs.take 508) ≠ natOf (bs.drop 508) →
      ∃ t, exec .calLoadEnd s = .next t ∧
        t.store = { s.store with ready := true, cal := Calibration.default, calValid := false, calUnsaved := true }) ∧
    (∀ k, s.store.nv = .torn k → s.store.ready = false →
      ∃ t, exec .calLoadEnd s = .next t ∧
        t.store = { s.store with ready := true, cal := Calibration.default, calValid := false, calUnsaved := true }) ∧
    (s.store.ready = false → ∃ t, exec .calLoadEnd s = .next t ∧
      ∀ k, t.ins.get k = { s.ins.get k with
        filtered := (s.ins.get k).raw, timer := none,
        asserted := (s.ins.get k).raw != t.store.cal.invert.get k }) ∧
    (s.store.ready = false → (s.motion.state = .off ∨ s.motion.state = .fault) → s.Quiet →
      let ends := fun (c : Calibration) (valid : Bool) (code : Nat) (value : Int) =>
        let level := fun k : Fin 8 => { s.ins.get k with
          filtered := (s.ins.get k).raw, asserted := (s.ins.get k).raw != c.invert.get k, timer := none }
        let blind := s.links.slr0.lock != .locked || !valid
        let ceiling := if blind = true then min c.vmax c.blindSpeed else c.vmax
        Host.Outcome.next (settle { s with
          store := { s.store with ready := true, cal := c, calValid := valid, calUnsaved := !valid }
          ins := ⟨level 0, level 1, level 2, level 3, level 4, level 5, level 6, level 7⟩
          motion := { s.motion with blind := blind, ceiling := ceiling }
          router := { s.router with raised := s.event code value ::
            (if blind = s.motion.blind then [] else [s.event (if blind = true then 0x0508 else 0x0509) ceiling]) } })
      exec .calLoadEnd s = match s.store.nv with
        | .bytes bs =>
          if crc32 (bs.take 508) = natOf (bs.drop 508) then
            ends (calOf bs) true 0x0B01 (signedOf 32 (crc32 (bs.take 508)))
          else ends Calibration.default false 0x0B02 (signedOf 32 (crc32 (bs.take 508)))
        | .torn k => ends Calibration.default false 0x0B02 (Config.tornBlockCrc k).toInt)

/-- O53. A frame has left HTXD (R202, R206): it is counted, a sent reply leaves its queue, and the arbiter takes the
oldest reply, else, with no reset waiting, the oldest notice, which leaves its queue, else with streaming on at most 8
records from the ring head, which leave it, else nothing. No GAP is pending. That a reply keeps its place in the queue
until its last byte has left is the model's choice (Log 20). -/
def Obligations.TransmitFrameEnd : Prop :=
  ∀ s : State, s.Quiet → s.log.gap = 0 → s.host.tx ≠ .idle →
    let left := if s.host.tx = .reply then s.host.replies.tail else s.host.replies
    let h := { s.host with replies := left, framesSent := min 4294967295 (s.host.framesSent + 1) }
    (left ≠ [] → exec .transmitFrameEnd s = .next { s with host := { h with tx := .reply } }) ∧
    (left = [] → s.host.resetPending ≠ none →
      exec .transmitFrameEnd s = .next { s with host := { h with tx := .idle } }) ∧
    (∀ e rest, s.router.notices = e :: rest → left = [] → s.host.resetPending = none →
      exec .transmitFrameEnd s = .next { s with
        host := { h with tx := .notice e }, router := { s.router with notices := rest } }) ∧
    (left = [] → s.host.resetPending = none → s.router.notices = [] → s.log.stream = true → s.log.ring ≠ [] →
      exec .transmitFrameEnd s = .next { s with
        host := { h with tx := .batch (s.log.ring.take 8) }, log := { s.log with ring := s.log.ring.drop 8 } }) ∧
    (left = [] → s.host.resetPending = none → s.router.notices = [] → (s.log.stream = false ∨ s.log.ring = []) →
      exec .transmitFrameEnd s = .next { s with host := { h with tx := .idle } })

/-! ## Invariants of every step, and rules over the whole machine -/

/-- O54. No step leaves an event or a monitor firing waiting (Log 4, Log 5), and none leaves work on an idle line
(R202): with no reply pending, no notice, and nothing to stream but while a reset waits. -/
def Obligations.StepLeavesNothingWaiting : Prop :=
  ∀ s t : State, s.Quiet → s.LineServed → step s = .next t → t.Quiet ∧ t.LineServed

/-- O55. No step takes a queue or an accumulation past what the rules let it hold (R73, R160, R170, R187, R202), from
any state within capacity. -/
def Obligations.StepKeepsCapacity : Prop :=
  ∀ s t : State, s.WithinCapacity → step s = .next t → t.WithinCapacity

/-- O56. No step leaves DRIVE_EN high outside the states that enable the drive or with ESTOP open, or a demand standing
with DRIVE_EN low (R65, R116). -/
def Obligations.StepKeepsDriveSafe : Prop :=
  ∀ s t : State, s.DriveSafe → step s = .next t → t.DriveSafe

/-- O57. No step, of any of the 71 commands, leaves the Sequencer RUNNING without a locked load link, a valid
calibration, an empty latched fault set and an empty held-reason set (R139), HELD with a fault latched or with the load
link lost and LOCK_LOSS absent (R108, R140), or the motion in TEST outside RUNNING and HELD (R84). -/
def Obligations.StepKeepsTestSafe : Prop :=
  ∀ s t : State, s.TestSafe → step s = .next t → t.TestSafe

/-- O58. No step takes mill time, its fraction or the trim out of its field, or the step away from the trim (R196,
R197). -/
def Obligations.StepKeepsMillTimeInRange : Prop :=
  ∀ s t : State, s.MillTimeInRange → step s = .next t → t.MillTimeInRange

/-- O59. The state after reset meets every invariant of O54 to O58. -/
def Obligations.ResetMeetsInvariants : Prop :=
  State.reset.Quiet ∧ State.reset.LineServed ∧ State.reset.WithinCapacity ∧ State.reset.DriveSafe ∧
    State.reset.TestSafe ∧ State.reset.MillTimeInRange

/-- O60. No sensor frame, encoder edge, pin, timer, save or sent frame changes the configuration: calibration, method,
phase table, specimen, gains, soft limits, the monitors' and the output lines' records, routes, thresholds, log
interval, stream mode, trim; nor does one remove a member of the latched fault set, which only CLEAR_FAULT and the
resets empty (R108, R109, R125, R126, R22, R91, R82, R151, R164, R157, R190, R193, R196, R208); and, apart from the
input lines' commands, with which a trigger can start a test, none hands the active strain back to an earlier source
(R34). -/
def Obligations.ConfigurationIsTheHosts : Prop :=
  ∀ (c : Instr) (s t : State), fromMachine c = true → exec c s = .next t →
    t.store.cal = s.store.cal ∧ t.seq.method = s.seq.method ∧ t.seq.phases = s.seq.phases ∧
    t.strain.specimen = s.strain.specimen ∧ t.loop.gPos = s.loop.gPos ∧ t.loop.gStress = s.loop.gStress ∧
    t.loop.gStrain = s.loop.gStrain ∧ t.motion.softLower = s.motion.softLower ∧
    t.motion.softUpper = s.motion.softUpper ∧ t.router.routes = s.router.routes ∧
    (∀ n, (t.links.get n).errThreshold = (s.links.get n).errThreshold) ∧ t.log.interval = s.log.interval ∧
    t.log.stream = s.log.stream ∧ t.time.trim = s.time.trim ∧ t.time.step = s.time.step ∧
    t.store.ready = s.store.ready ∧
    (∀ k, t.mon.bank.get k = { s.mon.bank.get k with
      state := (t.mon.bank.get k).state, value := (t.mon.bank.get k).value }) ∧
    (∀ k, t.outs.get k = { s.outs.get k with pulse := (t.outs.get k).pulse }) ∧
    ((∀ k, c ≠ .inputFilterExpiry k ∧ ∀ level, c ≠ .inputRawChange k level) →
      sourceCode s.strain.source ≤ sourceCode t.strain.source) ∧
    (s.prot.latched.overload = true → t.prot.latched.overload = true) ∧
    (s.prot.latched.driveFault = true → t.prot.latched.driveFault = true) ∧
    (s.prot.latched.estop = true → t.prot.latched.estop = true) ∧
    (s.prot.latched.overPos = true → t.prot.latched.overPos = true) ∧
    (s.prot.latched.overNeg = true → t.prot.latched.overNeg = true)
end

