-- ==== Sys2Proof/Laws/State.lean ====
section
/-! SUPPORT. Reading a part of the state after an update of it: the eightfold banks, the receivers, the extensometers,
and what each small named update puts into the fields it changes. What an update leaves alone stands in the frame
lemmas of the other files of this folder. -/

namespace Sys2Proof

/-! ## Eightfold banks -/

@[simp] theorem Eight.get_set_same {α : Type} (v : Eight α) (k : Fin 8) (a : α) : (v.set k a).get k = a := by
  revert k; intro k; match k with
  | 0 => rfl
  | 1 => rfl
  | 2 => rfl
  | 3 => rfl
  | 4 => rfl
  | 5 => rfl
  | 6 => rfl
  | 7 => rfl

theorem Eight.get_set_ne {α : Type} (v : Eight α) (k i : Fin 8) (a : α) (h : i ≠ k) : (v.set k a).get i = v.get i := by
  match k, i with
  | 0, 0 | 1, 1 | 2, 2 | 3, 3 | 4, 4 | 5, 5 | 6, 6 | 7, 7 => exact absurd rfl h
  | 0, 1 | 0, 2 | 0, 3 | 0, 4 | 0, 5 | 0, 6 | 0, 7 => rfl
  | 1, 0 | 1, 2 | 1, 3 | 1, 4 | 1, 5 | 1, 6 | 1, 7 => rfl
  | 2, 0 | 2, 1 | 2, 3 | 2, 4 | 2, 5 | 2, 6 | 2, 7 => rfl
  | 3, 0 | 3, 1 | 3, 2 | 3, 4 | 3, 5 | 3, 6 | 3, 7 => rfl
  | 4, 0 | 4, 1 | 4, 2 | 4, 3 | 4, 5 | 4, 6 | 4, 7 => rfl
  | 5, 0 | 5, 1 | 5, 2 | 5, 3 | 5, 4 | 5, 6 | 5, 7 => rfl
  | 6, 0 | 6, 1 | 6, 2 | 6, 3 | 6, 4 | 6, 5 | 6, 7 => rfl
  | 7, 0 | 7, 1 | 7, 2 | 7, 3 | 7, 4 | 7, 5 | 7, 6 => rfl

/-- One read of a bank after a write, whichever places they are. -/
theorem Eight.get_set {α : Type} (v : Eight α) (k i : Fin 8) (a : α) :
    (v.set k a).get i = if i = k then a else v.get i := by
  split
  · next h => rw [h, Eight.get_set_same]
  · next h => exact Eight.get_set_ne v k i a h

@[simp] theorem Eight.get_all {α : Type} (a : α) (k : Fin 8) : (Eight.all a).get k = a := by
  match k with
  | 0 | 1 | 2 | 3 | 4 | 5 | 6 | 7 => rfl

@[simp] theorem Eight.get_map {α β : Type} (f : α → β) (v : Eight α) (k : Fin 8) : (v.map f).get k = f (v.get k) := by
  match k with
  | 0 | 1 | 2 | 3 | 4 | 5 | 6 | 7 => rfl

/-- Two banks with the same eight things are the same. -/
theorem Eight.ext_get {α : Type} (v w : Eight α) (h : ∀ k, v.get k = w.get k) : v = w := by
  have h0 := h 0; have h1 := h 1; have h2 := h 2; have h3 := h 3
  have h4 := h 4; have h5 := h 5; have h6 := h 6; have h7 := h 7
  cases v; cases w
  simp only [Eight.get] at h0 h1 h2 h3 h4 h5 h6 h7
  subst h0 h1 h2 h3 h4 h5 h6 h7
  rfl

/-- Writing back what is there changes nothing. -/
@[simp] theorem Eight.set_get {α : Type} (v : Eight α) (k : Fin 8) : v.set k (v.get k) = v := by
  match k with
  | 0 | 1 | 2 | 3 | 4 | 5 | 6 | 7 => rfl

/-- A second write to a place is the one that stands. -/
@[simp] theorem Eight.set_set {α : Type} (v : Eight α) (k : Fin 8) (a b : α) : (v.set k a).set k b = v.set k b := by
  match k with
  | 0 | 1 | 2 | 3 | 4 | 5 | 6 | 7 => rfl

namespace Machine

/-! ## Receivers and extensometers -/

@[simp] theorem Links.get_set_same (l : Links) (n : Link) (r : Receiver) : (l.set n r).get n = r := by cases n <;> rfl

theorem Links.get_set_ne (l : Links) (n m : Link) (r : Receiver) (h : m ≠ n) : (l.set n r).get m = l.get m := by
  cases n <;> cases m <;> first | rfl | exact absurd rfl h

theorem Links.get_set (l : Links) (n m : Link) (r : Receiver) : (l.set n r).get m = if m = n then r else l.get m := by
  cases n <;> cases m <;> rfl

@[simp] theorem Links.set_get (l : Links) (n : Link) : l.set n (l.get n) = l := by cases n <;> rfl

@[simp] theorem Links.set_set (l : Links) (n : Link) (a b : Receiver) : (l.set n a).set n b = l.set n b := by
  cases n <;> rfl

/-- Two triples of receivers with the same three are the same. -/
theorem Links.ext_get (l m : Links) (h : ∀ n, l.get n = m.get n) : l = m := by
  have h0 := h .slr0; have h1 := h .slr1; have h2 := h .slr2
  cases l; cases m
  simp only [Links.get] at h0 h1 h2
  subst h0 h1 h2
  rfl

@[simp] theorem Handler.get_set_same (h : Handler) (x : ExtNo) (e : Ext) : (h.set x e).get x = e := by cases x <;> rfl

theorem Handler.get_set (h : Handler) (x y : ExtNo) (e : Ext) :
    (h.set x e).get y = if y = x then e else h.get y := by cases x <;> cases y <;> rfl

@[simp] theorem Handler.set_get (h : Handler) (x : ExtNo) : h.set x (h.get x) = h := by cases x <;> rfl

@[simp] theorem Handler.set_set (h : Handler) (x : ExtNo) (a b : Ext) : (h.set x a).set x b = h.set x b := by
  cases x <;> rfl

/-! ## What the small updates put into the fields they change -/

@[simp] theorem raise_raised (code : Nat) (value : Int) (s : State) :
    (raise code value s).router.raised = s.router.raised ++
      [{ code := code, sec := s.time.sec, ns := s.time.ns, value := sat32 value, phase := s.phaseTag, lost := 0 }] := rfl

@[simp] theorem pushLog_ring (r : LogRecord) (s : State) : (pushLog r s).log.ring = s.log.ring ++ [r] := rfl

@[simp] theorem updExt_ext (x : ExtNo) (g : Ext → Ext) (s : State) : (updExt x g s).ext = s.ext.set x (g (s.ext.get x)) :=
  rfl

@[simp] theorem updRemoval_removal (g : RemovalRecord → RemovalRecord) (s : State) :
    (updRemoval g s).ext.removal = g s.ext.removal := rfl

@[simp] theorem updLink_links (n : Link) (g : Receiver → Receiver) (s : State) :
    (updLink n g s).links = s.links.set n (g (s.links.get n)) := rfl

@[simp] theorem updInput_ins (k : Fin 8) (g : Input → Input) (s : State) :
    (updInput k g s).ins = s.ins.set k (g (s.ins.get k)) := rfl

@[simp] theorem clearSetup_motion (s : State) :
    (clearSetup s).motion = { s.motion with queue := [], jog := none, keepalive := none } := rfl

@[simp] theorem idleLoop_loop (s : State) : (idleLoop s).loop = { s.loop with mode := none, integ := 0 } := rfl

@[simp] theorem endEpisode_prot (s : State) : (endEpisode s).prot = { s.prot with episode := none, offTime := none } := rfl

@[simp] theorem pushReply_host (r : Reply) (s : State) :
    (pushReply r s).host = { s.host with replies := s.host.replies ++ [r] } := rfl

@[simp] theorem framingError_host (s : State) :
    (framingError s).host = { s.host with rx := .hunt, framingErrors := satU32 (s.host.framingErrors + 1) } := rfl

@[simp] theorem reformCeiling_ceiling (s : State) : (reformCeiling s).motion.ceiling = s.ceilingNow := rfl

@[simp] theorem enterMotion_state (st : MotionState) (s : State) : (enterMotion st s).motion.state = st := by
  simp only [enterMotion]; (repeat' split) <;> rfl

@[simp] theorem enterMotion_driveEn (st : MotionState) (s : State) :
    (enterMotion st s).motion.driveEn = (st.enabled && s.estopClosed) := by
  simp only [enterMotion]; (repeat' split) <;> rfl

end Machine

end Sys2Proof
end

