-- ==== Sys2Proof/Laws/Ops.lean ====
section
/-! SUPPORT. What each operation leaves alone, one lemma for each: the operations that the blocks share: events, the log, the monitors, the motion state; the Rate Loop; the result record.
A field that a lemma does not name is one that the operation can change. -/

namespace Sys2Proof.Machine

/-! ## Ops -/

@[simp] theorem raise_frame (code : Nat) (value : Int) (s : State) :
    (raise code value s).pending = s.pending ∧ (raise code value s).links = s.links ∧
    (raise code value s).force = s.force ∧ (raise code value s).strain = s.strain ∧
    (raise code value s).ext = s.ext ∧ (raise code value s).motion = s.motion ∧ (raise code value s).loop = s.loop ∧
    (raise code value s).prot = s.prot ∧ (raise code value s).seq = s.seq ∧ (raise code value s).mon = s.mon ∧
    (raise code value s).router.routes = s.router.routes ∧ (raise code value s).router.notices = s.router.notices ∧
    (raise code value s).router.lost = s.router.lost ∧ (raise code value s).ins = s.ins ∧
    (raise code value s).outs = s.outs ∧ (raise code value s).result = s.result ∧ (raise code value s).log = s.log ∧
    (raise code value s).time = s.time ∧ (raise code value s).host = s.host ∧ (raise code value s).store = s.store ∧
    (raise code value s).free = s.free := by
  simp [raise]

@[simp] theorem updRecord_frame (g : ResultRecord → ResultRecord) (s : State) :
    (updRecord g s).pending = s.pending ∧ (updRecord g s).links = s.links ∧ (updRecord g s).force = s.force ∧
    (updRecord g s).strain = s.strain ∧ (updRecord g s).ext = s.ext ∧ (updRecord g s).motion = s.motion ∧
    (updRecord g s).loop = s.loop ∧ (updRecord g s).prot = s.prot ∧ (updRecord g s).seq = s.seq ∧
    (updRecord g s).mon = s.mon ∧ (updRecord g s).router = s.router ∧ (updRecord g s).ins = s.ins ∧
    (updRecord g s).outs = s.outs ∧ (updRecord g s).result.n = s.result.n ∧
    (updRecord g s).result.fracArmed = s.result.fracArmed ∧ (updRecord g s).log = s.log ∧
    (updRecord g s).time = s.time ∧ (updRecord g s).host = s.host ∧ (updRecord g s).store = s.store ∧
    (updRecord g s).free = s.free := by
  simp only [updRecord]; (repeat' split) <;> simp

@[simp] theorem updFlags_frame (g : ResultFlags → ResultFlags) (s : State) :
    (updFlags g s).pending = s.pending ∧ (updFlags g s).links = s.links ∧ (updFlags g s).force = s.force ∧
    (updFlags g s).strain = s.strain ∧ (updFlags g s).ext = s.ext ∧ (updFlags g s).motion = s.motion ∧
    (updFlags g s).loop = s.loop ∧ (updFlags g s).prot = s.prot ∧ (updFlags g s).seq = s.seq ∧
    (updFlags g s).mon = s.mon ∧ (updFlags g s).router = s.router ∧ (updFlags g s).ins = s.ins ∧
    (updFlags g s).outs = s.outs ∧ (updFlags g s).result.n = s.result.n ∧
    (updFlags g s).result.fracArmed = s.result.fracArmed ∧ (updFlags g s).log = s.log ∧
    (updFlags g s).time = s.time ∧ (updFlags g s).host = s.host ∧ (updFlags g s).store = s.store ∧
    (updFlags g s).free = s.free := by
  simp [updFlags]

@[simp] theorem pushLog_frame (r : LogRecord) (s : State) :
    (pushLog r s).pending = s.pending ∧ (pushLog r s).links = s.links ∧ (pushLog r s).force = s.force ∧
    (pushLog r s).strain = s.strain ∧ (pushLog r s).ext = s.ext ∧ (pushLog r s).motion = s.motion ∧
    (pushLog r s).loop = s.loop ∧ (pushLog r s).prot = s.prot ∧ (pushLog r s).seq = s.seq ∧
    (pushLog r s).mon = s.mon ∧ (pushLog r s).router = s.router ∧ (pushLog r s).ins = s.ins ∧
    (pushLog r s).outs = s.outs ∧ (pushLog r s).result = s.result ∧ (pushLog r s).log.state = s.log.state ∧
    (pushLog r s).log.interval = s.log.interval ∧ (pushLog r s).log.due = s.log.due ∧
    (pushLog r s).log.seqNo = s.log.seqNo ∧ (pushLog r s).log.gap = s.log.gap ∧
    (pushLog r s).log.stream = s.log.stream ∧ (pushLog r s).log.firstSkipped = s.log.firstSkipped ∧
    (pushLog r s).time = s.time ∧ (pushLog r s).host = s.host ∧ (pushLog r s).store = s.store ∧
    (pushLog r s).free = s.free := by
  simp [pushLog]

@[simp] theorem storeGap_frame (s : State) :
    (storeGap s).pending = s.pending ∧ (storeGap s).links = s.links ∧ (storeGap s).force = s.force ∧
    (storeGap s).strain = s.strain ∧ (storeGap s).ext = s.ext ∧ (storeGap s).motion = s.motion ∧
    (storeGap s).loop = s.loop ∧ (storeGap s).prot = s.prot ∧ (storeGap s).seq = s.seq ∧ (storeGap s).mon = s.mon ∧
    (storeGap s).router.routes = s.router.routes ∧ (storeGap s).router.notices = s.router.notices ∧
    (storeGap s).router.lost = s.router.lost ∧ (storeGap s).ins = s.ins ∧ (storeGap s).outs = s.outs ∧
    (storeGap s).result = s.result ∧ (storeGap s).log.state = s.log.state ∧
    (storeGap s).log.interval = s.log.interval ∧ (storeGap s).log.due = s.log.due ∧
    (storeGap s).log.seqNo = s.log.seqNo ∧ (storeGap s).log.stream = s.log.stream ∧
    (storeGap s).log.firstSkipped = s.log.firstSkipped ∧ (storeGap s).time = s.time ∧ (storeGap s).host = s.host ∧
    (storeGap s).store = s.store ∧ (storeGap s).free = s.free := by
  simp [storeGap]

@[simp] theorem flushGap_frame (s : State) :
    (flushGap s).pending = s.pending ∧ (flushGap s).links = s.links ∧ (flushGap s).force = s.force ∧
    (flushGap s).strain = s.strain ∧ (flushGap s).ext = s.ext ∧ (flushGap s).motion = s.motion ∧
    (flushGap s).loop = s.loop ∧ (flushGap s).prot = s.prot ∧ (flushGap s).seq = s.seq ∧ (flushGap s).mon = s.mon ∧
    (flushGap s).router.routes = s.router.routes ∧ (flushGap s).router.notices = s.router.notices ∧
    (flushGap s).router.lost = s.router.lost ∧ (flushGap s).ins = s.ins ∧ (flushGap s).outs = s.outs ∧
    (flushGap s).result = s.result ∧ (flushGap s).log.state = s.log.state ∧
    (flushGap s).log.interval = s.log.interval ∧ (flushGap s).log.due = s.log.due ∧
    (flushGap s).log.seqNo = s.log.seqNo ∧ (flushGap s).log.stream = s.log.stream ∧
    (flushGap s).log.firstSkipped = s.log.firstSkipped ∧ (flushGap s).time = s.time ∧ (flushGap s).host = s.host ∧
    (flushGap s).store = s.store ∧ (flushGap s).free = s.free := by
  simp only [flushGap]; (repeat' split) <;> simp

@[simp] theorem markLog_frame (code : Nat) (value : Int) (s : State) :
    (markLog code value s).pending = s.pending ∧ (markLog code value s).links = s.links ∧
    (markLog code value s).force = s.force ∧ (markLog code value s).strain = s.strain ∧
    (markLog code value s).ext = s.ext ∧ (markLog code value s).motion = s.motion ∧
    (markLog code value s).loop = s.loop ∧ (markLog code value s).prot = s.prot ∧
    (markLog code value s).seq = s.seq ∧ (markLog code value s).mon = s.mon ∧
    (markLog code value s).router.routes = s.router.routes ∧
    (markLog code value s).router.notices = s.router.notices ∧ (markLog code value s).router.lost = s.router.lost ∧
    (markLog code value s).ins = s.ins ∧ (markLog code value s).outs = s.outs ∧
    (markLog code value s).result = s.result ∧ (markLog code value s).log.state = s.log.state ∧
    (markLog code value s).log.interval = s.log.interval ∧ (markLog code value s).log.due = s.log.due ∧
    (markLog code value s).log.seqNo = s.log.seqNo ∧ (markLog code value s).log.stream = s.log.stream ∧
    (markLog code value s).log.firstSkipped = s.log.firstSkipped ∧ (markLog code value s).time = s.time ∧
    (markLog code value s).host = s.host ∧ (markLog code value s).store = s.store ∧
    (markLog code value s).free = s.free := by
  simp only [markLog]; (repeat' split) <;> simp

@[simp] theorem startLog_frame (s : State) :
    (startLog s).pending = s.pending ∧ (startLog s).links = s.links ∧ (startLog s).force = s.force ∧
    (startLog s).strain = s.strain ∧ (startLog s).ext = s.ext ∧ (startLog s).motion = s.motion ∧
    (startLog s).loop = s.loop ∧ (startLog s).prot = s.prot ∧ (startLog s).seq = s.seq ∧ (startLog s).mon = s.mon ∧
    (startLog s).router.routes = s.router.routes ∧ (startLog s).router.notices = s.router.notices ∧
    (startLog s).router.lost = s.router.lost ∧ (startLog s).ins = s.ins ∧ (startLog s).outs = s.outs ∧
    (startLog s).result = s.result ∧ (startLog s).log.ring = s.log.ring ∧
    (startLog s).log.interval = s.log.interval ∧ (startLog s).log.seqNo = s.log.seqNo ∧
    (startLog s).log.gap = s.log.gap ∧ (startLog s).log.stream = s.log.stream ∧
    (startLog s).log.firstSkipped = s.log.firstSkipped ∧ (startLog s).time = s.time ∧ (startLog s).host = s.host ∧
    (startLog s).store = s.store ∧ (startLog s).free = s.free := by
  simp [startLog]

@[simp] theorem stopLog_frame (value : Int) (s : State) :
    (stopLog value s).pending = s.pending ∧ (stopLog value s).links = s.links ∧ (stopLog value s).force = s.force ∧
    (stopLog value s).strain = s.strain ∧ (stopLog value s).ext = s.ext ∧ (stopLog value s).motion = s.motion ∧
    (stopLog value s).loop = s.loop ∧ (stopLog value s).prot = s.prot ∧ (stopLog value s).seq = s.seq ∧
    (stopLog value s).mon = s.mon ∧ (stopLog value s).router.routes = s.router.routes ∧
    (stopLog value s).router.notices = s.router.notices ∧ (stopLog value s).router.lost = s.router.lost ∧
    (stopLog value s).ins = s.ins ∧ (stopLog value s).outs = s.outs ∧ (stopLog value s).result = s.result ∧
    (stopLog value s).log.interval = s.log.interval ∧ (stopLog value s).log.seqNo = s.log.seqNo ∧
    (stopLog value s).log.stream = s.log.stream ∧ (stopLog value s).log.firstSkipped = s.log.firstSkipped ∧
    (stopLog value s).time = s.time ∧ (stopLog value s).host = s.host ∧ (stopLog value s).store = s.store ∧
    (stopLog value s).free = s.free := by
  simp [stopLog]

@[simp] theorem evalMonitor_frame (q : Quantity) (v : Int) (s : State) (k : Fin 8) :
    (evalMonitor q v s k).pending = s.pending ∧ (evalMonitor q v s k).links = s.links ∧
    (evalMonitor q v s k).force = s.force ∧ (evalMonitor q v s k).strain = s.strain ∧
    (evalMonitor q v s k).ext = s.ext ∧ (evalMonitor q v s k).motion = s.motion ∧
    (evalMonitor q v s k).loop = s.loop ∧ (evalMonitor q v s k).prot = s.prot ∧ (evalMonitor q v s k).seq = s.seq ∧
    (evalMonitor q v s k).router = s.router ∧ (evalMonitor q v s k).ins = s.ins ∧
    (evalMonitor q v s k).outs = s.outs ∧ (evalMonitor q v s k).result = s.result ∧
    (evalMonitor q v s k).log = s.log ∧ (evalMonitor q v s k).time = s.time ∧ (evalMonitor q v s k).host = s.host ∧
    (evalMonitor q v s k).store = s.store ∧ (evalMonitor q v s k).free = s.free := by
  simp only [evalMonitor]; (repeat' split) <;> simp

@[simp] theorem evalMonitors_frame (q : Quantity) (v : Int) (s : State) :
    (evalMonitors q v s).pending = s.pending ∧ (evalMonitors q v s).links = s.links ∧
    (evalMonitors q v s).force = s.force ∧ (evalMonitors q v s).strain = s.strain ∧
    (evalMonitors q v s).ext = s.ext ∧ (evalMonitors q v s).motion = s.motion ∧ (evalMonitors q v s).loop = s.loop ∧
    (evalMonitors q v s).prot = s.prot ∧ (evalMonitors q v s).seq = s.seq ∧ (evalMonitors q v s).router = s.router ∧
    (evalMonitors q v s).ins = s.ins ∧ (evalMonitors q v s).outs = s.outs ∧ (evalMonitors q v s).result = s.result ∧
    (evalMonitors q v s).log = s.log ∧ (evalMonitors q v s).time = s.time ∧ (evalMonitors q v s).host = s.host ∧
    (evalMonitors q v s).store = s.store ∧ (evalMonitors q v s).free = s.free := by
  simp [evalMonitors, indices, List.foldl_cons, List.foldl_nil]

@[simp] theorem reformCeiling_frame (s : State) :
    (reformCeiling s).pending = s.pending ∧ (reformCeiling s).links = s.links ∧ (reformCeiling s).force = s.force ∧
    (reformCeiling s).strain = s.strain ∧ (reformCeiling s).ext = s.ext ∧
    (reformCeiling s).motion.state = s.motion.state ∧ (reformCeiling s).motion.queue = s.motion.queue ∧
    (reformCeiling s).motion.driveEn = s.motion.driveEn ∧
    (reformCeiling s).motion.lastDemand = s.motion.lastDemand ∧ (reformCeiling s).motion.jog = s.motion.jog ∧
    (reformCeiling s).motion.keepalive = s.motion.keepalive ∧
    (reformCeiling s).motion.encCount = s.motion.encCount ∧
    (reformCeiling s).motion.softLower = s.motion.softLower ∧
    (reformCeiling s).motion.softUpper = s.motion.softUpper ∧ (reformCeiling s).motion.sign = s.motion.sign ∧
    (reformCeiling s).motion.refX = s.motion.refX ∧ (reformCeiling s).motion.encA = s.motion.encA ∧
    (reformCeiling s).motion.encB = s.motion.encB ∧ (reformCeiling s).motion.encErrors = s.motion.encErrors ∧
    (reformCeiling s).motion.periodDue = s.motion.periodDue ∧ (reformCeiling s).motion.dwell = s.motion.dwell ∧
    (reformCeiling s).motion.zeroRun = s.motion.zeroRun ∧ (reformCeiling s).motion.dest = s.motion.dest ∧
    (reformCeiling s).motion.blind = s.motion.blind ∧ (reformCeiling s).motion.lastWord = s.motion.lastWord ∧
    (reformCeiling s).loop.gPos = s.loop.gPos ∧ (reformCeiling s).loop.gStress = s.loop.gStress ∧
    (reformCeiling s).loop.gStrain = s.loop.gStrain ∧ (reformCeiling s).loop.mode = s.loop.mode ∧
    (reformCeiling s).loop.target = s.loop.target ∧ (reformCeiling s).prot = s.prot ∧
    (reformCeiling s).seq = s.seq ∧ (reformCeiling s).mon = s.mon ∧ (reformCeiling s).router = s.router ∧
    (reformCeiling s).ins = s.ins ∧ (reformCeiling s).outs = s.outs ∧ (reformCeiling s).result = s.result ∧
    (reformCeiling s).log = s.log ∧ (reformCeiling s).time = s.time ∧ (reformCeiling s).host = s.host ∧
    (reformCeiling s).store = s.store ∧ (reformCeiling s).free = s.free := by
  simp only [reformCeiling]; (repeat' split) <;> simp

@[simp] theorem idleLoop_frame (s : State) :
    (idleLoop s).pending = s.pending ∧ (idleLoop s).links = s.links ∧ (idleLoop s).force = s.force ∧
    (idleLoop s).strain = s.strain ∧ (idleLoop s).ext = s.ext ∧ (idleLoop s).motion = s.motion ∧
    (idleLoop s).loop.gPos = s.loop.gPos ∧ (idleLoop s).loop.gStress = s.loop.gStress ∧
    (idleLoop s).loop.gStrain = s.loop.gStrain ∧ (idleLoop s).loop.target = s.loop.target ∧
    (idleLoop s).prot = s.prot ∧ (idleLoop s).seq = s.seq ∧ (idleLoop s).mon = s.mon ∧
    (idleLoop s).router = s.router ∧ (idleLoop s).ins = s.ins ∧ (idleLoop s).outs = s.outs ∧
    (idleLoop s).result = s.result ∧ (idleLoop s).log = s.log ∧ (idleLoop s).time = s.time ∧
    (idleLoop s).host = s.host ∧ (idleLoop s).store = s.store ∧ (idleLoop s).free = s.free := by
  simp [idleLoop]

@[simp] theorem followBlanking_frame (before : Bool) (s : State) :
    (followBlanking before s).pending = s.pending ∧ (followBlanking before s).links = s.links ∧
    (followBlanking before s).force = s.force ∧ (followBlanking before s).strain = s.strain ∧
    (followBlanking before s).ext = s.ext ∧ (followBlanking before s).motion = s.motion ∧
    (followBlanking before s).loop = s.loop ∧ (followBlanking before s).prot.latched = s.prot.latched ∧
    (followBlanking before s).prot.overload = s.prot.overload ∧
    (followBlanking before s).prot.gripCount = s.prot.gripCount ∧
    (followBlanking before s).prot.episode = s.prot.episode ∧
    (followBlanking before s).prot.offTime = s.prot.offTime ∧ (followBlanking before s).seq = s.seq ∧
    (followBlanking before s).mon = s.mon ∧ (followBlanking before s).router = s.router ∧
    (followBlanking before s).ins = s.ins ∧ (followBlanking before s).outs = s.outs ∧
    (followBlanking before s).result = s.result ∧ (followBlanking before s).log = s.log ∧
    (followBlanking before s).time = s.time ∧ (followBlanking before s).host = s.host ∧
    (followBlanking before s).store = s.store ∧ (followBlanking before s).free = s.free := by
  simp [followBlanking]

@[simp] theorem endEpisode_frame (s : State) :
    (endEpisode s).pending = s.pending ∧ (endEpisode s).links = s.links ∧ (endEpisode s).force = s.force ∧
    (endEpisode s).strain = s.strain ∧ (endEpisode s).ext = s.ext ∧ (endEpisode s).motion = s.motion ∧
    (endEpisode s).loop = s.loop ∧ (endEpisode s).prot.latched = s.prot.latched ∧
    (endEpisode s).prot.overload = s.prot.overload ∧ (endEpisode s).prot.gripCount = s.prot.gripCount ∧
    (endEpisode s).prot.blanking = s.prot.blanking ∧ (endEpisode s).seq = s.seq ∧ (endEpisode s).mon = s.mon ∧
    (endEpisode s).router = s.router ∧ (endEpisode s).ins = s.ins ∧ (endEpisode s).outs = s.outs ∧
    (endEpisode s).result = s.result ∧ (endEpisode s).log = s.log ∧ (endEpisode s).time = s.time ∧
    (endEpisode s).host = s.host ∧ (endEpisode s).store = s.store ∧ (endEpisode s).free = s.free := by
  simp [endEpisode]

@[simp] theorem enterMotion_frame (st : MotionState) (s : State) :
    (enterMotion st s).pending = s.pending ∧ (enterMotion st s).links = s.links ∧
    (enterMotion st s).force = s.force ∧ (enterMotion st s).strain = s.strain ∧ (enterMotion st s).ext = s.ext ∧
    (enterMotion st s).motion.queue = s.motion.queue ∧ (enterMotion st s).motion.jog = s.motion.jog ∧
    (enterMotion st s).motion.keepalive = s.motion.keepalive ∧
    (enterMotion st s).motion.encCount = s.motion.encCount ∧
    (enterMotion st s).motion.softLower = s.motion.softLower ∧
    (enterMotion st s).motion.softUpper = s.motion.softUpper ∧ (enterMotion st s).motion.sign = s.motion.sign ∧
    (enterMotion st s).motion.refX = s.motion.refX ∧ (enterMotion st s).motion.encA = s.motion.encA ∧
    (enterMotion st s).motion.encB = s.motion.encB ∧ (enterMotion st s).motion.encErrors = s.motion.encErrors ∧
    (enterMotion st s).motion.periodDue = s.motion.periodDue ∧ (enterMotion st s).motion.dwell = s.motion.dwell ∧
    (enterMotion st s).motion.zeroRun = s.motion.zeroRun ∧ (enterMotion st s).motion.blind = s.motion.blind ∧
    (enterMotion st s).motion.lastWord = s.motion.lastWord ∧ (enterMotion st s).loop.gPos = s.loop.gPos ∧
    (enterMotion st s).loop.gStress = s.loop.gStress ∧ (enterMotion st s).loop.gStrain = s.loop.gStrain ∧
    (enterMotion st s).loop.target = s.loop.target ∧ (enterMotion st s).prot.latched = s.prot.latched ∧
    (enterMotion st s).prot.overload = s.prot.overload ∧ (enterMotion st s).prot.gripCount = s.prot.gripCount ∧
    (enterMotion st s).seq = s.seq ∧ (enterMotion st s).mon = s.mon ∧ (enterMotion st s).router = s.router ∧
    (enterMotion st s).ins = s.ins ∧ (enterMotion st s).outs = s.outs ∧ (enterMotion st s).result = s.result ∧
    (enterMotion st s).log = s.log ∧ (enterMotion st s).time = s.time ∧ (enterMotion st s).host = s.host ∧
    (enterMotion st s).store = s.store ∧ (enterMotion st s).free = s.free := by
  simp only [enterMotion]; (repeat' split) <;> simp

@[simp] theorem clearSetup_frame (s : State) :
    (clearSetup s).pending = s.pending ∧ (clearSetup s).links = s.links ∧ (clearSetup s).force = s.force ∧
    (clearSetup s).strain = s.strain ∧ (clearSetup s).ext = s.ext ∧ (clearSetup s).motion.state = s.motion.state ∧
    (clearSetup s).motion.driveEn = s.motion.driveEn ∧ (clearSetup s).motion.lastDemand = s.motion.lastDemand ∧
    (clearSetup s).motion.encCount = s.motion.encCount ∧ (clearSetup s).motion.softLower = s.motion.softLower ∧
    (clearSetup s).motion.softUpper = s.motion.softUpper ∧ (clearSetup s).motion.sign = s.motion.sign ∧
    (clearSetup s).motion.refX = s.motion.refX ∧ (clearSetup s).motion.encA = s.motion.encA ∧
    (clearSetup s).motion.encB = s.motion.encB ∧ (clearSetup s).motion.encErrors = s.motion.encErrors ∧
    (clearSetup s).motion.periodDue = s.motion.periodDue ∧ (clearSetup s).motion.dwell = s.motion.dwell ∧
    (clearSetup s).motion.zeroRun = s.motion.zeroRun ∧ (clearSetup s).motion.dest = s.motion.dest ∧
    (clearSetup s).motion.blind = s.motion.blind ∧ (clearSetup s).motion.lastWord = s.motion.lastWord ∧
    (clearSetup s).motion.ceiling = s.motion.ceiling ∧ (clearSetup s).loop = s.loop ∧ (clearSetup s).prot = s.prot ∧
    (clearSetup s).seq = s.seq ∧ (clearSetup s).mon = s.mon ∧ (clearSetup s).router = s.router ∧
    (clearSetup s).ins = s.ins ∧ (clearSetup s).outs = s.outs ∧ (clearSetup s).result = s.result ∧
    (clearSetup s).log = s.log ∧ (clearSetup s).time = s.time ∧ (clearSetup s).host = s.host ∧
    (clearSetup s).store = s.store ∧ (clearSetup s).free = s.free := by
  simp [clearSetup]

@[simp] theorem beginHead_frame (s : State) :
    (beginHead s).pending = s.pending ∧ (beginHead s).links = s.links ∧ (beginHead s).force = s.force ∧
    (beginHead s).strain = s.strain ∧ (beginHead s).ext = s.ext ∧ (beginHead s).motion.jog = s.motion.jog ∧
    (beginHead s).motion.keepalive = s.motion.keepalive ∧ (beginHead s).motion.encCount = s.motion.encCount ∧
    (beginHead s).motion.softLower = s.motion.softLower ∧ (beginHead s).motion.softUpper = s.motion.softUpper ∧
    (beginHead s).motion.sign = s.motion.sign ∧ (beginHead s).motion.encA = s.motion.encA ∧
    (beginHead s).motion.encB = s.motion.encB ∧ (beginHead s).motion.encErrors = s.motion.encErrors ∧
    (beginHead s).motion.periodDue = s.motion.periodDue ∧ (beginHead s).motion.dwell = s.motion.dwell ∧
    (beginHead s).motion.zeroRun = s.motion.zeroRun ∧ (beginHead s).motion.blind = s.motion.blind ∧
    (beginHead s).motion.lastWord = s.motion.lastWord ∧ (beginHead s).loop.gPos = s.loop.gPos ∧
    (beginHead s).loop.gStress = s.loop.gStress ∧ (beginHead s).loop.gStrain = s.loop.gStrain ∧
    (beginHead s).loop.target = s.loop.target ∧ (beginHead s).prot.latched = s.prot.latched ∧
    (beginHead s).prot.overload = s.prot.overload ∧ (beginHead s).prot.gripCount = s.prot.gripCount ∧
    (beginHead s).seq = s.seq ∧ (beginHead s).mon = s.mon ∧ (beginHead s).router = s.router ∧
    (beginHead s).ins = s.ins ∧ (beginHead s).outs = s.outs ∧ (beginHead s).result = s.result ∧
    (beginHead s).log = s.log ∧ (beginHead s).time = s.time ∧ (beginHead s).host = s.host ∧
    (beginHead s).store = s.store ∧ (beginHead s).free = s.free := by
  simp only [beginHead]; (repeat' split) <;> simp

/-! ## Loop -/

@[simp] theorem rebasePhase_frame (p : Phase) (fromHold : Bool) (s : State) :
    (rebasePhase p fromHold s).pending = s.pending ∧ (rebasePhase p fromHold s).links = s.links ∧
    (rebasePhase p fromHold s).force = s.force ∧ (rebasePhase p fromHold s).strain = s.strain ∧
    (rebasePhase p fromHold s).ext = s.ext ∧ (rebasePhase p fromHold s).motion = s.motion ∧
    (rebasePhase p fromHold s).loop.gPos = s.loop.gPos ∧ (rebasePhase p fromHold s).loop.gStress = s.loop.gStress ∧
    (rebasePhase p fromHold s).loop.gStrain = s.loop.gStrain ∧ (rebasePhase p fromHold s).prot = s.prot ∧
    (rebasePhase p fromHold s).seq = s.seq ∧ (rebasePhase p fromHold s).mon = s.mon ∧
    (rebasePhase p fromHold s).router = s.router ∧ (rebasePhase p fromHold s).ins = s.ins ∧
    (rebasePhase p fromHold s).outs = s.outs ∧ (rebasePhase p fromHold s).result = s.result ∧
    (rebasePhase p fromHold s).log = s.log ∧ (rebasePhase p fromHold s).time = s.time ∧
    (rebasePhase p fromHold s).host = s.host ∧ (rebasePhase p fromHold s).store = s.store ∧
    (rebasePhase p fromHold s).free = s.free := by
  simp [rebasePhase]

@[simp] theorem rebaseHold_frame (s : State) :
    (rebaseHold s).pending = s.pending ∧ (rebaseHold s).links = s.links ∧ (rebaseHold s).force = s.force ∧
    (rebaseHold s).strain = s.strain ∧ (rebaseHold s).ext = s.ext ∧ (rebaseHold s).motion = s.motion ∧
    (rebaseHold s).loop.gPos = s.loop.gPos ∧ (rebaseHold s).loop.gStress = s.loop.gStress ∧
    (rebaseHold s).loop.gStrain = s.loop.gStrain ∧ (rebaseHold s).prot = s.prot ∧ (rebaseHold s).seq = s.seq ∧
    (rebaseHold s).mon = s.mon ∧ (rebaseHold s).router = s.router ∧ (rebaseHold s).ins = s.ins ∧
    (rebaseHold s).outs = s.outs ∧ (rebaseHold s).result = s.result ∧ (rebaseHold s).log = s.log ∧
    (rebaseHold s).time = s.time ∧ (rebaseHold s).host = s.host ∧ (rebaseHold s).store = s.store ∧
    (rebaseHold s).free = s.free := by
  simp [rebaseHold]

@[simp] theorem rebaseResume_frame (p : Phase) (s : State) :
    (rebaseResume p s).pending = s.pending ∧ (rebaseResume p s).links = s.links ∧
    (rebaseResume p s).force = s.force ∧ (rebaseResume p s).strain = s.strain ∧ (rebaseResume p s).ext = s.ext ∧
    (rebaseResume p s).motion = s.motion ∧ (rebaseResume p s).loop.gPos = s.loop.gPos ∧
    (rebaseResume p s).loop.gStress = s.loop.gStress ∧ (rebaseResume p s).loop.gStrain = s.loop.gStrain ∧
    (rebaseResume p s).prot = s.prot ∧ (rebaseResume p s).seq = s.seq ∧ (rebaseResume p s).mon = s.mon ∧
    (rebaseResume p s).router = s.router ∧ (rebaseResume p s).ins = s.ins ∧ (rebaseResume p s).outs = s.outs ∧
    (rebaseResume p s).result = s.result ∧ (rebaseResume p s).log = s.log ∧ (rebaseResume p s).time = s.time ∧
    (rebaseResume p s).host = s.host ∧ (rebaseResume p s).store = s.store ∧ (rebaseResume p s).free = s.free := by
  simp [rebaseResume]

@[simp] theorem loopStep_frame (m : Mode) (s : State) :
    (loopStep m s).pending = s.pending ∧ (loopStep m s).links = s.links ∧ (loopStep m s).force = s.force ∧
    (loopStep m s).strain = s.strain ∧ (loopStep m s).ext = s.ext ∧ (loopStep m s).motion = s.motion ∧
    (loopStep m s).loop.gPos = s.loop.gPos ∧ (loopStep m s).loop.gStress = s.loop.gStress ∧
    (loopStep m s).loop.gStrain = s.loop.gStrain ∧ (loopStep m s).loop.mode = s.loop.mode ∧
    (loopStep m s).prot = s.prot ∧ (loopStep m s).seq = s.seq ∧ (loopStep m s).mon = s.mon ∧
    (loopStep m s).router = s.router ∧ (loopStep m s).ins = s.ins ∧ (loopStep m s).outs = s.outs ∧
    (loopStep m s).result = s.result ∧ (loopStep m s).log = s.log ∧ (loopStep m s).time = s.time ∧
    (loopStep m s).host = s.host ∧ (loopStep m s).store = s.store ∧ (loopStep m s).free = s.free := by
  simp [loopStep]

/-! ## Result -/

@[simp] theorem openResult_frame (s : State) :
    (openResult s).pending = s.pending ∧ (openResult s).links = s.links ∧ (openResult s).force = s.force ∧
    (openResult s).strain = s.strain ∧ (openResult s).ext = s.ext ∧ (openResult s).motion = s.motion ∧
    (openResult s).loop = s.loop ∧ (openResult s).prot = s.prot ∧ (openResult s).seq = s.seq ∧
    (openResult s).mon = s.mon ∧ (openResult s).router = s.router ∧ (openResult s).ins = s.ins ∧
    (openResult s).outs = s.outs ∧ (openResult s).log = s.log ∧ (openResult s).time = s.time ∧
    (openResult s).host = s.host ∧ (openResult s).store = s.store ∧ (openResult s).free = s.free := by
  simp [openResult]

@[simp] theorem zeroResult_frame (s : State) :
    (zeroResult s).pending = s.pending ∧ (zeroResult s).links = s.links ∧ (zeroResult s).force = s.force ∧
    (zeroResult s).strain = s.strain ∧ (zeroResult s).ext = s.ext ∧ (zeroResult s).motion = s.motion ∧
    (zeroResult s).loop = s.loop ∧ (zeroResult s).prot = s.prot ∧ (zeroResult s).seq = s.seq ∧
    (zeroResult s).mon = s.mon ∧ (zeroResult s).router = s.router ∧ (zeroResult s).ins = s.ins ∧
    (zeroResult s).outs = s.outs ∧ (zeroResult s).log = s.log ∧ (zeroResult s).time = s.time ∧
    (zeroResult s).host = s.host ∧ (zeroResult s).store = s.store ∧ (zeroResult s).free = s.free := by
  simp [zeroResult]

@[simp] theorem formResults_frame (s : State) :
    (formResults s).pending = s.pending ∧ (formResults s).links = s.links ∧ (formResults s).force = s.force ∧
    (formResults s).strain = s.strain ∧ (formResults s).ext = s.ext ∧ (formResults s).motion = s.motion ∧
    (formResults s).loop = s.loop ∧ (formResults s).prot = s.prot ∧ (formResults s).seq = s.seq ∧
    (formResults s).mon = s.mon ∧ (formResults s).router = s.router ∧ (formResults s).ins = s.ins ∧
    (formResults s).outs = s.outs ∧ (formResults s).result.n = s.result.n ∧
    (formResults s).result.fracArmed = s.result.fracArmed ∧ (formResults s).log = s.log ∧
    (formResults s).time = s.time ∧ (formResults s).host = s.host ∧ (formResults s).store = s.store ∧
    (formResults s).free = s.free := by
  simp [formResults]

@[simp] theorem setReL_frame (s : State) :
    (setReL s).pending = s.pending ∧ (setReL s).links = s.links ∧ (setReL s).force = s.force ∧
    (setReL s).strain = s.strain ∧ (setReL s).ext = s.ext ∧ (setReL s).motion = s.motion ∧
    (setReL s).loop = s.loop ∧ (setReL s).prot = s.prot ∧ (setReL s).seq = s.seq ∧ (setReL s).mon = s.mon ∧
    (setReL s).router = s.router ∧ (setReL s).ins = s.ins ∧ (setReL s).outs = s.outs ∧
    (setReL s).result.n = s.result.n ∧ (setReL s).result.fracArmed = s.result.fracArmed ∧ (setReL s).log = s.log ∧
    (setReL s).time = s.time ∧ (setReL s).host = s.host ∧ (setReL s).store = s.store ∧ (setReL s).free = s.free := by
  simp only [setReL]; (repeat' split) <;> simp

@[simp] theorem finishPlateau_frame (strainAtEnd : Int) (s : State) :
    (finishPlateau strainAtEnd s).pending = s.pending ∧ (finishPlateau strainAtEnd s).links = s.links ∧
    (finishPlateau strainAtEnd s).force = s.force ∧ (finishPlateau strainAtEnd s).strain = s.strain ∧
    (finishPlateau strainAtEnd s).ext = s.ext ∧ (finishPlateau strainAtEnd s).motion = s.motion ∧
    (finishPlateau strainAtEnd s).loop = s.loop ∧ (finishPlateau strainAtEnd s).prot = s.prot ∧
    (finishPlateau strainAtEnd s).seq = s.seq ∧ (finishPlateau strainAtEnd s).mon = s.mon ∧
    (finishPlateau strainAtEnd s).router = s.router ∧ (finishPlateau strainAtEnd s).ins = s.ins ∧
    (finishPlateau strainAtEnd s).outs = s.outs ∧ (finishPlateau strainAtEnd s).result.n = s.result.n ∧
    (finishPlateau strainAtEnd s).result.fracArmed = s.result.fracArmed ∧
    (finishPlateau strainAtEnd s).log = s.log ∧ (finishPlateau strainAtEnd s).time = s.time ∧
    (finishPlateau strainAtEnd s).host = s.host ∧ (finishPlateau strainAtEnd s).store = s.store ∧
    (finishPlateau strainAtEnd s).free = s.free := by
  simp [finishPlateau]

@[simp] theorem leaveRecord_frame (s : State) :
    (leaveRecord s).pending = s.pending ∧ (leaveRecord s).links = s.links ∧ (leaveRecord s).force = s.force ∧
    (leaveRecord s).strain = s.strain ∧ (leaveRecord s).ext = s.ext ∧ (leaveRecord s).motion = s.motion ∧
    (leaveRecord s).loop = s.loop ∧ (leaveRecord s).prot = s.prot ∧ (leaveRecord s).seq = s.seq ∧
    (leaveRecord s).mon = s.mon ∧ (leaveRecord s).router = s.router ∧ (leaveRecord s).ins = s.ins ∧
    (leaveRecord s).outs = s.outs ∧ (leaveRecord s).result.n = s.result.n ∧
    (leaveRecord s).result.fracArmed = s.result.fracArmed ∧ (leaveRecord s).log = s.log ∧
    (leaveRecord s).time = s.time ∧ (leaveRecord s).host = s.host ∧ (leaveRecord s).store = s.store ∧
    (leaveRecord s).free = s.free := by
  simp only [leaveRecord]; (repeat' split) <;> simp

@[simp] theorem closeRecord_frame (s : State) :
    (closeRecord s).pending = s.pending ∧ (closeRecord s).links = s.links ∧ (closeRecord s).force = s.force ∧
    (closeRecord s).strain = s.strain ∧ (closeRecord s).ext = s.ext ∧ (closeRecord s).motion = s.motion ∧
    (closeRecord s).loop = s.loop ∧ (closeRecord s).prot = s.prot ∧ (closeRecord s).seq = s.seq ∧
    (closeRecord s).mon = s.mon ∧ (closeRecord s).router = s.router ∧ (closeRecord s).ins = s.ins ∧
    (closeRecord s).outs = s.outs ∧ (closeRecord s).result.n = s.result.n ∧
    (closeRecord s).result.fracArmed = s.result.fracArmed ∧ (closeRecord s).log = s.log ∧
    (closeRecord s).time = s.time ∧ (closeRecord s).host = s.host ∧ (closeRecord s).store = s.store ∧
    (closeRecord s).free = s.free := by
  simp [closeRecord]

@[simp] theorem takeBreak_frame (s : State) :
    (takeBreak s).pending = s.pending ∧ (takeBreak s).links = s.links ∧ (takeBreak s).force = s.force ∧
    (takeBreak s).strain = s.strain ∧ (takeBreak s).ext = s.ext ∧ (takeBreak s).motion = s.motion ∧
    (takeBreak s).loop = s.loop ∧ (takeBreak s).prot = s.prot ∧ (takeBreak s).seq = s.seq ∧
    (takeBreak s).mon = s.mon ∧ (takeBreak s).router = s.router ∧ (takeBreak s).ins = s.ins ∧
    (takeBreak s).outs = s.outs ∧ (takeBreak s).result.n = s.result.n ∧ (takeBreak s).log = s.log ∧
    (takeBreak s).time = s.time ∧ (takeBreak s).host = s.host ∧ (takeBreak s).store = s.store ∧
    (takeBreak s).free = s.free := by
  simp only [takeBreak]; (repeat' split) <;> simp

end Sys2Proof.Machine
end

