-- ==== Sys2Proof/Laws/Sequencer.lean ====
section
/-! SUPPORT. What each operation leaves alone, one lemma for each: the Test Sequencer's and the Extensometer Handler's
operations, with the giving on of firings. A field that a lemma does not name is one that the operation can change. -/

namespace Sys2Proof.Machine

/-! ## SeqOps -/

@[simp] theorem stopPhaseTimer_frame (s : State) :
    (stopPhaseTimer s).pending = s.pending ∧ (stopPhaseTimer s).links = s.links ∧
    (stopPhaseTimer s).force = s.force ∧ (stopPhaseTimer s).strain = s.strain ∧ (stopPhaseTimer s).ext = s.ext ∧
    (stopPhaseTimer s).motion = s.motion ∧ (stopPhaseTimer s).loop = s.loop ∧ (stopPhaseTimer s).prot = s.prot ∧
    (stopPhaseTimer s).seq.state = s.seq.state ∧ (stopPhaseTimer s).seq.method = s.seq.method ∧
    (stopPhaseTimer s).seq.phases = s.seq.phases ∧ (stopPhaseTimer s).seq.phase = s.seq.phase ∧
    (stopPhaseTimer s).seq.held = s.seq.held ∧ (stopPhaseTimer s).seq.armedTrigger = s.seq.armedTrigger ∧
    (stopPhaseTimer s).seq.fractured = s.seq.fractured ∧ (stopPhaseTimer s).seq.endReason = s.seq.endReason ∧
    (stopPhaseTimer s).seq.abortCause = s.seq.abortCause ∧ (stopPhaseTimer s).seq.pendingExit = s.seq.pendingExit ∧
    (stopPhaseTimer s).mon = s.mon ∧ (stopPhaseTimer s).router = s.router ∧ (stopPhaseTimer s).ins = s.ins ∧
    (stopPhaseTimer s).outs = s.outs ∧ (stopPhaseTimer s).result = s.result ∧ (stopPhaseTimer s).log = s.log ∧
    (stopPhaseTimer s).time = s.time ∧ (stopPhaseTimer s).host = s.host ∧ (stopPhaseTimer s).store = s.store ∧
    (stopPhaseTimer s).free = s.free := by
  simp [stopPhaseTimer]

@[simp] theorem abandonRemoval_frame (s : State) :
    (abandonRemoval s).pending = s.pending ∧ (abandonRemoval s).links = s.links ∧
    (abandonRemoval s).force = s.force ∧ (abandonRemoval s).strain = s.strain ∧
    (abandonRemoval s).ext.secondary = s.ext.secondary ∧
    (abandonRemoval s).ext.removeRequest = s.ext.removeRequest ∧ (abandonRemoval s).ext.slipM = s.ext.slipM ∧
    (abandonRemoval s).ext.slipX = s.ext.slipX ∧ (abandonRemoval s).motion = s.motion ∧
    (abandonRemoval s).loop = s.loop ∧ (abandonRemoval s).prot = s.prot ∧ (abandonRemoval s).seq = s.seq ∧
    (abandonRemoval s).mon = s.mon ∧ (abandonRemoval s).router = s.router ∧ (abandonRemoval s).ins = s.ins ∧
    (abandonRemoval s).outs = s.outs ∧ (abandonRemoval s).result.n = s.result.n ∧
    (abandonRemoval s).result.fracArmed = s.result.fracArmed ∧ (abandonRemoval s).log = s.log ∧
    (abandonRemoval s).time = s.time ∧ (abandonRemoval s).host = s.host ∧ (abandonRemoval s).store = s.store ∧
    (abandonRemoval s).free = s.free := by
  simp only [abandonRemoval]; (repeat' split) <;> simp

@[simp] theorem logTestEnd_frame (s : State) :
    (logTestEnd s).pending = s.pending ∧ (logTestEnd s).links = s.links ∧ (logTestEnd s).force = s.force ∧
    (logTestEnd s).strain = s.strain ∧ (logTestEnd s).ext = s.ext ∧ (logTestEnd s).motion = s.motion ∧
    (logTestEnd s).loop = s.loop ∧ (logTestEnd s).prot = s.prot ∧ (logTestEnd s).seq = s.seq ∧
    (logTestEnd s).mon = s.mon ∧ (logTestEnd s).router.routes = s.router.routes ∧
    (logTestEnd s).router.notices = s.router.notices ∧ (logTestEnd s).router.lost = s.router.lost ∧
    (logTestEnd s).ins = s.ins ∧ (logTestEnd s).outs = s.outs ∧ (logTestEnd s).result = s.result ∧
    (logTestEnd s).log.interval = s.log.interval ∧ (logTestEnd s).log.seqNo = s.log.seqNo ∧
    (logTestEnd s).log.stream = s.log.stream ∧ (logTestEnd s).log.firstSkipped = s.log.firstSkipped ∧
    (logTestEnd s).time = s.time ∧ (logTestEnd s).host = s.host ∧ (logTestEnd s).store = s.store ∧
    (logTestEnd s).free = s.free := by
  simp only [logTestEnd]; (repeat' split) <;> simp

@[simp] theorem enterEnd_frame (s : State) :
    (enterEnd s).pending = s.pending ∧ (enterEnd s).links = s.links ∧ (enterEnd s).force = s.force ∧
    (enterEnd s).strain = s.strain ∧ (enterEnd s).ext.primary = s.ext.primary ∧
    (enterEnd s).ext.secondary = s.ext.secondary ∧ (enterEnd s).ext.removal = s.ext.removal ∧
    (enterEnd s).ext.slipM = s.ext.slipM ∧ (enterEnd s).ext.slipX = s.ext.slipX ∧ (enterEnd s).motion = s.motion ∧
    (enterEnd s).loop = s.loop ∧ (enterEnd s).prot = s.prot ∧ (enterEnd s).seq.method = s.seq.method ∧
    (enterEnd s).seq.phases = s.seq.phases ∧ (enterEnd s).seq.phase = s.seq.phase ∧
    (enterEnd s).seq.held = s.seq.held ∧ (enterEnd s).seq.armedTrigger = s.seq.armedTrigger ∧
    (enterEnd s).seq.fractured = s.seq.fractured ∧ (enterEnd s).seq.endReason = s.seq.endReason ∧
    (enterEnd s).seq.abortCause = s.seq.abortCause ∧ (enterEnd s).seq.pendingExit = s.seq.pendingExit ∧
    (enterEnd s).seq.phaseStart = s.seq.phaseStart ∧ (enterEnd s).mon = s.mon ∧
    (enterEnd s).router.routes = s.router.routes ∧ (enterEnd s).router.notices = s.router.notices ∧
    (enterEnd s).router.lost = s.router.lost ∧ (enterEnd s).ins = s.ins ∧ (enterEnd s).outs = s.outs ∧
    (enterEnd s).result.n = s.result.n ∧ (enterEnd s).result.fracArmed = s.result.fracArmed ∧
    (enterEnd s).log.interval = s.log.interval ∧ (enterEnd s).log.seqNo = s.log.seqNo ∧
    (enterEnd s).log.stream = s.log.stream ∧ (enterEnd s).log.firstSkipped = s.log.firstSkipped ∧
    (enterEnd s).time.testTime = s.time.testTime ∧ (enterEnd s).time.sec = s.time.sec ∧
    (enterEnd s).time.ns = s.time.ns ∧ (enterEnd s).time.frac = s.time.frac ∧ (enterEnd s).time.step = s.time.step ∧
    (enterEnd s).time.trim = s.time.trim ∧ (enterEnd s).time.crystal = s.time.crystal ∧
    (enterEnd s).time.msSeen = s.time.msSeen ∧ (enterEnd s).host = s.host ∧ (enterEnd s).store = s.store ∧
    (enterEnd s).free = s.free := by
  simp only [enterEnd]; (repeat' split) <;> simp

@[simp] theorem stopEnded_frame (s : State) :
    (stopEnded s).pending = s.pending ∧ (stopEnded s).links = s.links ∧ (stopEnded s).force = s.force ∧
    (stopEnded s).strain = s.strain ∧ (stopEnded s).ext.primary = s.ext.primary ∧
    (stopEnded s).ext.secondary = s.ext.secondary ∧ (stopEnded s).ext.removal = s.ext.removal ∧
    (stopEnded s).ext.slipM = s.ext.slipM ∧ (stopEnded s).ext.slipX = s.ext.slipX ∧
    (stopEnded s).motion = s.motion ∧ (stopEnded s).loop = s.loop ∧ (stopEnded s).prot = s.prot ∧
    (stopEnded s).seq.method = s.seq.method ∧ (stopEnded s).seq.phases = s.seq.phases ∧
    (stopEnded s).seq.phase = s.seq.phase ∧ (stopEnded s).seq.held = s.seq.held ∧
    (stopEnded s).seq.armedTrigger = s.seq.armedTrigger ∧ (stopEnded s).seq.fractured = s.seq.fractured ∧
    (stopEnded s).seq.endReason = s.seq.endReason ∧ (stopEnded s).seq.abortCause = s.seq.abortCause ∧
    (stopEnded s).seq.pendingExit = s.seq.pendingExit ∧ (stopEnded s).seq.phaseStart = s.seq.phaseStart ∧
    (stopEnded s).mon = s.mon ∧ (stopEnded s).router.routes = s.router.routes ∧
    (stopEnded s).router.notices = s.router.notices ∧ (stopEnded s).router.lost = s.router.lost ∧
    (stopEnded s).ins = s.ins ∧ (stopEnded s).outs = s.outs ∧ (stopEnded s).result.n = s.result.n ∧
    (stopEnded s).result.fracArmed = s.result.fracArmed ∧ (stopEnded s).log.interval = s.log.interval ∧
    (stopEnded s).log.seqNo = s.log.seqNo ∧ (stopEnded s).log.stream = s.log.stream ∧
    (stopEnded s).log.firstSkipped = s.log.firstSkipped ∧ (stopEnded s).time.testTime = s.time.testTime ∧
    (stopEnded s).time.sec = s.time.sec ∧ (stopEnded s).time.ns = s.time.ns ∧
    (stopEnded s).time.frac = s.time.frac ∧ (stopEnded s).time.step = s.time.step ∧
    (stopEnded s).time.trim = s.time.trim ∧ (stopEnded s).time.crystal = s.time.crystal ∧
    (stopEnded s).time.msSeen = s.time.msSeen ∧ (stopEnded s).host = s.host ∧ (stopEnded s).store = s.store ∧
    (stopEnded s).free = s.free := by
  simp only [stopEnded]; (repeat' split) <;> simp

@[simp] theorem enterStop_frame (d : StopDest) (s : State) :
    (enterStop d s).pending = s.pending ∧ (enterStop d s).links = s.links ∧ (enterStop d s).force = s.force ∧
    (enterStop d s).strain = s.strain ∧ (enterStop d s).ext.primary = s.ext.primary ∧
    (enterStop d s).ext.secondary = s.ext.secondary ∧ (enterStop d s).ext.removal = s.ext.removal ∧
    (enterStop d s).ext.slipM = s.ext.slipM ∧ (enterStop d s).ext.slipX = s.ext.slipX ∧
    (enterStop d s).motion.encCount = s.motion.encCount ∧ (enterStop d s).motion.softLower = s.motion.softLower ∧
    (enterStop d s).motion.softUpper = s.motion.softUpper ∧ (enterStop d s).motion.sign = s.motion.sign ∧
    (enterStop d s).motion.refX = s.motion.refX ∧ (enterStop d s).motion.encA = s.motion.encA ∧
    (enterStop d s).motion.encB = s.motion.encB ∧ (enterStop d s).motion.encErrors = s.motion.encErrors ∧
    (enterStop d s).motion.periodDue = s.motion.periodDue ∧ (enterStop d s).motion.dwell = s.motion.dwell ∧
    (enterStop d s).motion.zeroRun = s.motion.zeroRun ∧ (enterStop d s).motion.blind = s.motion.blind ∧
    (enterStop d s).motion.lastWord = s.motion.lastWord ∧ (enterStop d s).loop.gPos = s.loop.gPos ∧
    (enterStop d s).loop.gStress = s.loop.gStress ∧ (enterStop d s).loop.gStrain = s.loop.gStrain ∧
    (enterStop d s).loop.target = s.loop.target ∧ (enterStop d s).prot.latched = s.prot.latched ∧
    (enterStop d s).prot.overload = s.prot.overload ∧ (enterStop d s).prot.gripCount = s.prot.gripCount ∧
    (enterStop d s).seq.method = s.seq.method ∧ (enterStop d s).seq.phases = s.seq.phases ∧
    (enterStop d s).seq.phase = s.seq.phase ∧ (enterStop d s).seq.held = s.seq.held ∧
    (enterStop d s).seq.armedTrigger = s.seq.armedTrigger ∧ (enterStop d s).seq.fractured = s.seq.fractured ∧
    (enterStop d s).seq.endReason = s.seq.endReason ∧ (enterStop d s).seq.abortCause = s.seq.abortCause ∧
    (enterStop d s).seq.pendingExit = s.seq.pendingExit ∧ (enterStop d s).seq.phaseStart = s.seq.phaseStart ∧
    (enterStop d s).mon = s.mon ∧ (enterStop d s).router.routes = s.router.routes ∧
    (enterStop d s).router.notices = s.router.notices ∧ (enterStop d s).router.lost = s.router.lost ∧
    (enterStop d s).ins = s.ins ∧ (enterStop d s).outs = s.outs ∧ (enterStop d s).result.n = s.result.n ∧
    (enterStop d s).result.fracArmed = s.result.fracArmed ∧ (enterStop d s).log.interval = s.log.interval ∧
    (enterStop d s).log.seqNo = s.log.seqNo ∧ (enterStop d s).log.stream = s.log.stream ∧
    (enterStop d s).log.firstSkipped = s.log.firstSkipped ∧ (enterStop d s).time.testTime = s.time.testTime ∧
    (enterStop d s).time.sec = s.time.sec ∧ (enterStop d s).time.ns = s.time.ns ∧
    (enterStop d s).time.frac = s.time.frac ∧ (enterStop d s).time.step = s.time.step ∧
    (enterStop d s).time.trim = s.time.trim ∧ (enterStop d s).time.crystal = s.time.crystal ∧
    (enterStop d s).time.msSeen = s.time.msSeen ∧ (enterStop d s).host = s.host ∧ (enterStop d s).store = s.store ∧
    (enterStop d s).free = s.free := by
  simp only [enterStop]; (repeat' split) <;> simp

@[simp] theorem dropHold_frame (s : State) :
    (dropHold s).pending = s.pending ∧ (dropHold s).links = s.links ∧ (dropHold s).force = s.force ∧
    (dropHold s).strain = s.strain ∧ (dropHold s).ext = s.ext ∧ (dropHold s).motion = s.motion ∧
    (dropHold s).loop = s.loop ∧ (dropHold s).prot = s.prot ∧ (dropHold s).seq.state = s.seq.state ∧
    (dropHold s).seq.method = s.seq.method ∧ (dropHold s).seq.phases = s.seq.phases ∧
    (dropHold s).seq.phase = s.seq.phase ∧ (dropHold s).seq.armedTrigger = s.seq.armedTrigger ∧
    (dropHold s).seq.fractured = s.seq.fractured ∧ (dropHold s).seq.endReason = s.seq.endReason ∧
    (dropHold s).seq.abortCause = s.seq.abortCause ∧ (dropHold s).mon = s.mon ∧ (dropHold s).router = s.router ∧
    (dropHold s).ins = s.ins ∧ (dropHold s).outs = s.outs ∧ (dropHold s).result = s.result ∧
    (dropHold s).log = s.log ∧ (dropHold s).time = s.time ∧ (dropHold s).host = s.host ∧
    (dropHold s).store = s.store ∧ (dropHold s).free = s.free := by
  simp [dropHold]

@[simp] theorem finish_frame (r : EndReason) (brk : Int) (s : State) :
    (finish r brk s).pending = s.pending ∧ (finish r brk s).links = s.links ∧ (finish r brk s).force = s.force ∧
    (finish r brk s).strain = s.strain ∧ (finish r brk s).ext.secondary = s.ext.secondary ∧
    (finish r brk s).ext.slipM = s.ext.slipM ∧ (finish r brk s).ext.slipX = s.ext.slipX ∧
    (finish r brk s).motion.encCount = s.motion.encCount ∧ (finish r brk s).motion.softLower = s.motion.softLower ∧
    (finish r brk s).motion.softUpper = s.motion.softUpper ∧ (finish r brk s).motion.sign = s.motion.sign ∧
    (finish r brk s).motion.refX = s.motion.refX ∧ (finish r brk s).motion.encA = s.motion.encA ∧
    (finish r brk s).motion.encB = s.motion.encB ∧ (finish r brk s).motion.encErrors = s.motion.encErrors ∧
    (finish r brk s).motion.periodDue = s.motion.periodDue ∧ (finish r brk s).motion.dwell = s.motion.dwell ∧
    (finish r brk s).motion.zeroRun = s.motion.zeroRun ∧ (finish r brk s).motion.blind = s.motion.blind ∧
    (finish r brk s).motion.lastWord = s.motion.lastWord ∧ (finish r brk s).loop.gPos = s.loop.gPos ∧
    (finish r brk s).loop.gStress = s.loop.gStress ∧ (finish r brk s).loop.gStrain = s.loop.gStrain ∧
    (finish r brk s).loop.target = s.loop.target ∧ (finish r brk s).prot.latched = s.prot.latched ∧
    (finish r brk s).prot.overload = s.prot.overload ∧ (finish r brk s).prot.gripCount = s.prot.gripCount ∧
    (finish r brk s).seq.method = s.seq.method ∧ (finish r brk s).seq.phases = s.seq.phases ∧
    (finish r brk s).seq.phase = s.seq.phase ∧ (finish r brk s).seq.armedTrigger = s.seq.armedTrigger ∧
    (finish r brk s).seq.fractured = s.seq.fractured ∧ (finish r brk s).seq.abortCause = s.seq.abortCause ∧
    (finish r brk s).mon = s.mon ∧ (finish r brk s).router.routes = s.router.routes ∧
    (finish r brk s).router.notices = s.router.notices ∧ (finish r brk s).router.lost = s.router.lost ∧
    (finish r brk s).ins = s.ins ∧ (finish r brk s).outs = s.outs ∧ (finish r brk s).result.n = s.result.n ∧
    (finish r brk s).result.fracArmed = s.result.fracArmed ∧ (finish r brk s).log.interval = s.log.interval ∧
    (finish r brk s).log.seqNo = s.log.seqNo ∧ (finish r brk s).log.stream = s.log.stream ∧
    (finish r brk s).log.firstSkipped = s.log.firstSkipped ∧ (finish r brk s).time.testTime = s.time.testTime ∧
    (finish r brk s).time.sec = s.time.sec ∧ (finish r brk s).time.ns = s.time.ns ∧
    (finish r brk s).time.frac = s.time.frac ∧ (finish r brk s).time.step = s.time.step ∧
    (finish r brk s).time.trim = s.time.trim ∧ (finish r brk s).time.crystal = s.time.crystal ∧
    (finish r brk s).time.msSeen = s.time.msSeen ∧ (finish r brk s).host = s.host ∧
    (finish r brk s).store = s.store ∧ (finish r brk s).free = s.free := by
  simp only [finish]; (repeat' split) <;> simp

@[simp] theorem reportFracture_frame (brk : Int) (s : State) :
    (reportFracture brk s).pending = s.pending ∧ (reportFracture brk s).links = s.links ∧
    (reportFracture brk s).force = s.force ∧ (reportFracture brk s).strain = s.strain ∧
    (reportFracture brk s).ext.secondary = s.ext.secondary ∧ (reportFracture brk s).ext.slipM = s.ext.slipM ∧
    (reportFracture brk s).ext.slipX = s.ext.slipX ∧ (reportFracture brk s).motion.encCount = s.motion.encCount ∧
    (reportFracture brk s).motion.softLower = s.motion.softLower ∧
    (reportFracture brk s).motion.softUpper = s.motion.softUpper ∧
    (reportFracture brk s).motion.sign = s.motion.sign ∧ (reportFracture brk s).motion.refX = s.motion.refX ∧
    (reportFracture brk s).motion.encA = s.motion.encA ∧ (reportFracture brk s).motion.encB = s.motion.encB ∧
    (reportFracture brk s).motion.encErrors = s.motion.encErrors ∧
    (reportFracture brk s).motion.periodDue = s.motion.periodDue ∧
    (reportFracture brk s).motion.dwell = s.motion.dwell ∧
    (reportFracture brk s).motion.zeroRun = s.motion.zeroRun ∧
    (reportFracture brk s).motion.blind = s.motion.blind ∧
    (reportFracture brk s).motion.lastWord = s.motion.lastWord ∧ (reportFracture brk s).loop.gPos = s.loop.gPos ∧
    (reportFracture brk s).loop.gStress = s.loop.gStress ∧ (reportFracture brk s).loop.gStrain = s.loop.gStrain ∧
    (reportFracture brk s).loop.target = s.loop.target ∧ (reportFracture brk s).prot.latched = s.prot.latched ∧
    (reportFracture brk s).prot.overload = s.prot.overload ∧
    (reportFracture brk s).prot.gripCount = s.prot.gripCount ∧ (reportFracture brk s).seq.method = s.seq.method ∧
    (reportFracture brk s).seq.phases = s.seq.phases ∧ (reportFracture brk s).seq.phase = s.seq.phase ∧
    (reportFracture brk s).seq.armedTrigger = s.seq.armedTrigger ∧
    (reportFracture brk s).seq.abortCause = s.seq.abortCause ∧ (reportFracture brk s).mon = s.mon ∧
    (reportFracture brk s).router.routes = s.router.routes ∧
    (reportFracture brk s).router.notices = s.router.notices ∧ (reportFracture brk s).router.lost = s.router.lost ∧
    (reportFracture brk s).ins = s.ins ∧ (reportFracture brk s).outs = s.outs ∧
    (reportFracture brk s).result.n = s.result.n ∧ (reportFracture brk s).result.fracArmed = s.result.fracArmed ∧
    (reportFracture brk s).log.interval = s.log.interval ∧ (reportFracture brk s).log.seqNo = s.log.seqNo ∧
    (reportFracture brk s).log.stream = s.log.stream ∧
    (reportFracture brk s).log.firstSkipped = s.log.firstSkipped ∧
    (reportFracture brk s).time.testTime = s.time.testTime ∧ (reportFracture brk s).time.sec = s.time.sec ∧
    (reportFracture brk s).time.ns = s.time.ns ∧ (reportFracture brk s).time.frac = s.time.frac ∧
    (reportFracture brk s).time.step = s.time.step ∧ (reportFracture brk s).time.trim = s.time.trim ∧
    (reportFracture brk s).time.crystal = s.time.crystal ∧ (reportFracture brk s).time.msSeen = s.time.msSeen ∧
    (reportFracture brk s).host = s.host ∧ (reportFracture brk s).store = s.store ∧
    (reportFracture brk s).free = s.free := by
  simp only [reportFracture]; (repeat' split) <;> simp

@[simp] theorem abortRunning_frame (c : AbortCause) (s : State) :
    (abortRunning c s).pending = s.pending ∧ (abortRunning c s).links = s.links ∧
    (abortRunning c s).force = s.force ∧ (abortRunning c s).strain = s.strain ∧
    (abortRunning c s).ext.secondary = s.ext.secondary ∧ (abortRunning c s).ext.slipM = s.ext.slipM ∧
    (abortRunning c s).ext.slipX = s.ext.slipX ∧ (abortRunning c s).motion.encCount = s.motion.encCount ∧
    (abortRunning c s).motion.softLower = s.motion.softLower ∧
    (abortRunning c s).motion.softUpper = s.motion.softUpper ∧ (abortRunning c s).motion.sign = s.motion.sign ∧
    (abortRunning c s).motion.refX = s.motion.refX ∧ (abortRunning c s).motion.encA = s.motion.encA ∧
    (abortRunning c s).motion.encB = s.motion.encB ∧ (abortRunning c s).motion.encErrors = s.motion.encErrors ∧
    (abortRunning c s).motion.periodDue = s.motion.periodDue ∧ (abortRunning c s).motion.dwell = s.motion.dwell ∧
    (abortRunning c s).motion.zeroRun = s.motion.zeroRun ∧ (abortRunning c s).motion.blind = s.motion.blind ∧
    (abortRunning c s).motion.lastWord = s.motion.lastWord ∧ (abortRunning c s).loop.gPos = s.loop.gPos ∧
    (abortRunning c s).loop.gStress = s.loop.gStress ∧ (abortRunning c s).loop.gStrain = s.loop.gStrain ∧
    (abortRunning c s).loop.target = s.loop.target ∧ (abortRunning c s).prot.latched = s.prot.latched ∧
    (abortRunning c s).prot.overload = s.prot.overload ∧ (abortRunning c s).prot.gripCount = s.prot.gripCount ∧
    (abortRunning c s).seq.method = s.seq.method ∧ (abortRunning c s).seq.phases = s.seq.phases ∧
    (abortRunning c s).seq.phase = s.seq.phase ∧ (abortRunning c s).seq.armedTrigger = s.seq.armedTrigger ∧
    (abortRunning c s).seq.fractured = s.seq.fractured ∧ (abortRunning c s).mon = s.mon ∧
    (abortRunning c s).router.routes = s.router.routes ∧ (abortRunning c s).router.notices = s.router.notices ∧
    (abortRunning c s).router.lost = s.router.lost ∧ (abortRunning c s).ins = s.ins ∧
    (abortRunning c s).outs = s.outs ∧ (abortRunning c s).result.n = s.result.n ∧
    (abortRunning c s).result.fracArmed = s.result.fracArmed ∧ (abortRunning c s).log.interval = s.log.interval ∧
    (abortRunning c s).log.seqNo = s.log.seqNo ∧ (abortRunning c s).log.stream = s.log.stream ∧
    (abortRunning c s).log.firstSkipped = s.log.firstSkipped ∧ (abortRunning c s).time.testTime = s.time.testTime ∧
    (abortRunning c s).time.sec = s.time.sec ∧ (abortRunning c s).time.ns = s.time.ns ∧
    (abortRunning c s).time.frac = s.time.frac ∧ (abortRunning c s).time.step = s.time.step ∧
    (abortRunning c s).time.trim = s.time.trim ∧ (abortRunning c s).time.crystal = s.time.crystal ∧
    (abortRunning c s).time.msSeen = s.time.msSeen ∧ (abortRunning c s).host = s.host ∧
    (abortRunning c s).store = s.store ∧ (abortRunning c s).free = s.free := by
  simp only [abortRunning]; (repeat' split) <;> simp

@[simp] theorem abortFinishing_frame (c : AbortCause) (s : State) :
    (abortFinishing c s).pending = s.pending ∧ (abortFinishing c s).links = s.links ∧
    (abortFinishing c s).force = s.force ∧ (abortFinishing c s).strain = s.strain ∧
    (abortFinishing c s).ext.primary = s.ext.primary ∧ (abortFinishing c s).ext.secondary = s.ext.secondary ∧
    (abortFinishing c s).ext.removal = s.ext.removal ∧ (abortFinishing c s).ext.slipM = s.ext.slipM ∧
    (abortFinishing c s).ext.slipX = s.ext.slipX ∧ (abortFinishing c s).motion = s.motion ∧
    (abortFinishing c s).loop = s.loop ∧ (abortFinishing c s).prot = s.prot ∧
    (abortFinishing c s).seq.method = s.seq.method ∧ (abortFinishing c s).seq.phases = s.seq.phases ∧
    (abortFinishing c s).seq.phase = s.seq.phase ∧ (abortFinishing c s).seq.held = s.seq.held ∧
    (abortFinishing c s).seq.armedTrigger = s.seq.armedTrigger ∧
    (abortFinishing c s).seq.fractured = s.seq.fractured ∧
    (abortFinishing c s).seq.pendingExit = s.seq.pendingExit ∧
    (abortFinishing c s).seq.phaseStart = s.seq.phaseStart ∧ (abortFinishing c s).mon = s.mon ∧
    (abortFinishing c s).router.routes = s.router.routes ∧ (abortFinishing c s).router.notices = s.router.notices ∧
    (abortFinishing c s).router.lost = s.router.lost ∧ (abortFinishing c s).ins = s.ins ∧
    (abortFinishing c s).outs = s.outs ∧ (abortFinishing c s).result.n = s.result.n ∧
    (abortFinishing c s).result.fracArmed = s.result.fracArmed ∧
    (abortFinishing c s).log.interval = s.log.interval ∧ (abortFinishing c s).log.seqNo = s.log.seqNo ∧
    (abortFinishing c s).log.stream = s.log.stream ∧ (abortFinishing c s).log.firstSkipped = s.log.firstSkipped ∧
    (abortFinishing c s).time.testTime = s.time.testTime ∧ (abortFinishing c s).time.sec = s.time.sec ∧
    (abortFinishing c s).time.ns = s.time.ns ∧ (abortFinishing c s).time.frac = s.time.frac ∧
    (abortFinishing c s).time.step = s.time.step ∧ (abortFinishing c s).time.trim = s.time.trim ∧
    (abortFinishing c s).time.crystal = s.time.crystal ∧ (abortFinishing c s).time.msSeen = s.time.msSeen ∧
    (abortFinishing c s).host = s.host ∧ (abortFinishing c s).store = s.store ∧ (abortFinishing c s).free = s.free := by
  simp only [abortFinishing]; (repeat' split) <;> simp

@[simp] theorem disarm_frame (c : AbortCause) (value : Int) (s : State) :
    (disarm c value s).pending = s.pending ∧ (disarm c value s).links = s.links ∧
    (disarm c value s).force = s.force ∧ (disarm c value s).strain = s.strain ∧ (disarm c value s).ext = s.ext ∧
    (disarm c value s).motion = s.motion ∧ (disarm c value s).loop = s.loop ∧ (disarm c value s).prot = s.prot ∧
    (disarm c value s).seq.method = s.seq.method ∧ (disarm c value s).seq.phases = s.seq.phases ∧
    (disarm c value s).seq.phase = s.seq.phase ∧ (disarm c value s).seq.held = s.seq.held ∧
    (disarm c value s).seq.fractured = s.seq.fractured ∧ (disarm c value s).seq.endReason = s.seq.endReason ∧
    (disarm c value s).seq.abortCause = s.seq.abortCause ∧ (disarm c value s).seq.pendingExit = s.seq.pendingExit ∧
    (disarm c value s).seq.phaseStart = s.seq.phaseStart ∧ (disarm c value s).mon = s.mon ∧
    (disarm c value s).router.routes = s.router.routes ∧ (disarm c value s).router.notices = s.router.notices ∧
    (disarm c value s).router.lost = s.router.lost ∧ (disarm c value s).ins = s.ins ∧
    (disarm c value s).outs = s.outs ∧ (disarm c value s).result = s.result ∧ (disarm c value s).log = s.log ∧
    (disarm c value s).time = s.time ∧ (disarm c value s).host = s.host ∧ (disarm c value s).store = s.store ∧
    (disarm c value s).free = s.free := by
  simp [disarm]

@[simp] theorem abortCause_frame (c : AbortCause) (s : State) :
    (abortCause c s).pending = s.pending ∧ (abortCause c s).links = s.links ∧ (abortCause c s).force = s.force ∧
    (abortCause c s).strain = s.strain ∧ (abortCause c s).ext.secondary = s.ext.secondary ∧
    (abortCause c s).ext.slipM = s.ext.slipM ∧ (abortCause c s).ext.slipX = s.ext.slipX ∧
    (abortCause c s).motion.encCount = s.motion.encCount ∧ (abortCause c s).motion.softLower = s.motion.softLower ∧
    (abortCause c s).motion.softUpper = s.motion.softUpper ∧ (abortCause c s).motion.sign = s.motion.sign ∧
    (abortCause c s).motion.refX = s.motion.refX ∧ (abortCause c s).motion.encA = s.motion.encA ∧
    (abortCause c s).motion.encB = s.motion.encB ∧ (abortCause c s).motion.encErrors = s.motion.encErrors ∧
    (abortCause c s).motion.periodDue = s.motion.periodDue ∧ (abortCause c s).motion.dwell = s.motion.dwell ∧
    (abortCause c s).motion.zeroRun = s.motion.zeroRun ∧ (abortCause c s).motion.blind = s.motion.blind ∧
    (abortCause c s).motion.lastWord = s.motion.lastWord ∧ (abortCause c s).loop.gPos = s.loop.gPos ∧
    (abortCause c s).loop.gStress = s.loop.gStress ∧ (abortCause c s).loop.gStrain = s.loop.gStrain ∧
    (abortCause c s).loop.target = s.loop.target ∧ (abortCause c s).prot.latched = s.prot.latched ∧
    (abortCause c s).prot.overload = s.prot.overload ∧ (abortCause c s).prot.gripCount = s.prot.gripCount ∧
    (abortCause c s).seq.method = s.seq.method ∧ (abortCause c s).seq.phases = s.seq.phases ∧
    (abortCause c s).seq.phase = s.seq.phase ∧ (abortCause c s).seq.fractured = s.seq.fractured ∧
    (abortCause c s).mon = s.mon ∧ (abortCause c s).router.routes = s.router.routes ∧
    (abortCause c s).router.notices = s.router.notices ∧ (abortCause c s).router.lost = s.router.lost ∧
    (abortCause c s).ins = s.ins ∧ (abortCause c s).outs = s.outs ∧ (abortCause c s).result.n = s.result.n ∧
    (abortCause c s).result.fracArmed = s.result.fracArmed ∧ (abortCause c s).log.interval = s.log.interval ∧
    (abortCause c s).log.seqNo = s.log.seqNo ∧ (abortCause c s).log.stream = s.log.stream ∧
    (abortCause c s).log.firstSkipped = s.log.firstSkipped ∧ (abortCause c s).time.testTime = s.time.testTime ∧
    (abortCause c s).time.sec = s.time.sec ∧ (abortCause c s).time.ns = s.time.ns ∧
    (abortCause c s).time.frac = s.time.frac ∧ (abortCause c s).time.step = s.time.step ∧
    (abortCause c s).time.trim = s.time.trim ∧ (abortCause c s).time.crystal = s.time.crystal ∧
    (abortCause c s).time.msSeen = s.time.msSeen ∧ (abortCause c s).host = s.host ∧
    (abortCause c s).store = s.store ∧ (abortCause c s).free = s.free := by
  simp only [abortCause]; (repeat' split) <;> simp

@[simp] theorem joinHeld_frame (r : HeldReason) (s : State) :
    (joinHeld r s).pending = s.pending ∧ (joinHeld r s).links = s.links ∧ (joinHeld r s).force = s.force ∧
    (joinHeld r s).strain = s.strain ∧ (joinHeld r s).ext = s.ext ∧ (joinHeld r s).motion = s.motion ∧
    (joinHeld r s).loop.gPos = s.loop.gPos ∧ (joinHeld r s).loop.gStress = s.loop.gStress ∧
    (joinHeld r s).loop.gStrain = s.loop.gStrain ∧ (joinHeld r s).prot = s.prot ∧
    (joinHeld r s).seq.method = s.seq.method ∧ (joinHeld r s).seq.phases = s.seq.phases ∧
    (joinHeld r s).seq.phase = s.seq.phase ∧ (joinHeld r s).seq.armedTrigger = s.seq.armedTrigger ∧
    (joinHeld r s).seq.fractured = s.seq.fractured ∧ (joinHeld r s).seq.endReason = s.seq.endReason ∧
    (joinHeld r s).seq.abortCause = s.seq.abortCause ∧ (joinHeld r s).seq.pendingExit = s.seq.pendingExit ∧
    (joinHeld r s).seq.phaseStart = s.seq.phaseStart ∧ (joinHeld r s).mon = s.mon ∧
    (joinHeld r s).router.routes = s.router.routes ∧ (joinHeld r s).router.notices = s.router.notices ∧
    (joinHeld r s).router.lost = s.router.lost ∧ (joinHeld r s).ins = s.ins ∧ (joinHeld r s).outs = s.outs ∧
    (joinHeld r s).result = s.result ∧ (joinHeld r s).log = s.log ∧ (joinHeld r s).time = s.time ∧
    (joinHeld r s).host = s.host ∧ (joinHeld r s).store = s.store ∧ (joinHeld r s).free = s.free := by
  simp only [joinHeld]; (repeat' split) <;> simp

@[simp] theorem formCrosshead_frame (s : State) :
    (formCrosshead s).pending = s.pending ∧ (formCrosshead s).links = s.links ∧ (formCrosshead s).force = s.force ∧
    (formCrosshead s).strain.specimen = s.strain.specimen ∧ (formCrosshead s).strain.source = s.strain.source ∧
    (formCrosshead s).strain.p0 = s.strain.p0 ∧ (formCrosshead s).strain.stitch = s.strain.stitch ∧
    (formCrosshead s).strain.stress = s.strain.stress ∧ (formCrosshead s).strain.stressSat = s.strain.stressSat ∧
    (formCrosshead s).strain.setSource = s.strain.setSource ∧
    (formCrosshead s).strain.active = s.strain.active ∧ (formCrosshead s).ext = s.ext ∧
    (formCrosshead s).motion = s.motion ∧ (formCrosshead s).loop = s.loop ∧ (formCrosshead s).prot = s.prot ∧
    (formCrosshead s).seq = s.seq ∧ (formCrosshead s).router = s.router ∧ (formCrosshead s).ins = s.ins ∧
    (formCrosshead s).outs = s.outs ∧ (formCrosshead s).result = s.result ∧ (formCrosshead s).log = s.log ∧
    (formCrosshead s).time = s.time ∧ (formCrosshead s).host = s.host ∧ (formCrosshead s).store = s.store ∧
    (formCrosshead s).free = s.free := by
  simp [formCrosshead]

@[simp] theorem formActive_frame (reading : Int) (s : State) :
    (formActive reading s).pending = s.pending ∧ (formActive reading s).links = s.links ∧
    (formActive reading s).force = s.force ∧ (formActive reading s).strain.specimen = s.strain.specimen ∧
    (formActive reading s).strain.source = s.strain.source ∧ (formActive reading s).strain.p0 = s.strain.p0 ∧
    (formActive reading s).strain.stitch = s.strain.stitch ∧
    (formActive reading s).strain.stress = s.strain.stress ∧
    (formActive reading s).strain.stressSat = s.strain.stressSat ∧
    (formActive reading s).strain.setSource = s.strain.setSource ∧
    (formActive reading s).strain.epsC = s.strain.epsC ∧ (formActive reading s).ext = s.ext ∧
    (formActive reading s).motion = s.motion ∧ (formActive reading s).loop = s.loop ∧
    (formActive reading s).prot = s.prot ∧ (formActive reading s).seq = s.seq ∧
    (formActive reading s).router = s.router ∧ (formActive reading s).ins = s.ins ∧
    (formActive reading s).outs = s.outs ∧ (formActive reading s).result = s.result ∧
    (formActive reading s).log = s.log ∧ (formActive reading s).time = s.time ∧
    (formActive reading s).host = s.host ∧ (formActive reading s).store = s.store ∧
    (formActive reading s).free = s.free := by
  simp [formActive]

@[simp] theorem strainZero_frame (s : State) :
    (strainZero s).pending = s.pending ∧ (strainZero s).links = s.links ∧ (strainZero s).force = s.force ∧
    (strainZero s).strain.specimen = s.strain.specimen ∧ (strainZero s).strain.source = s.strain.source ∧
    (strainZero s).strain.stress = s.strain.stress ∧ (strainZero s).strain.stressSat = s.strain.stressSat ∧
    (strainZero s).strain.setSource = s.strain.setSource ∧
    (strainZero s).ext.removal = s.ext.removal ∧ (strainZero s).ext.removeRequest = s.ext.removeRequest ∧
    (strainZero s).motion = s.motion ∧ (strainZero s).loop = s.loop ∧ (strainZero s).prot = s.prot ∧
    (strainZero s).seq = s.seq ∧ (strainZero s).router = s.router ∧ (strainZero s).ins = s.ins ∧
    (strainZero s).outs = s.outs ∧ (strainZero s).log = s.log ∧ (strainZero s).time = s.time ∧
    (strainZero s).host = s.host ∧ (strainZero s).store = s.store ∧ (strainZero s).free = s.free := by
  simp only [strainZero]; (repeat' split) <;> simp

@[simp] theorem enterPhase_frame (fromHold : Bool) (s : State) :
    (enterPhase fromHold s).pending = s.pending ∧ (enterPhase fromHold s).links = s.links ∧
    (enterPhase fromHold s).force = s.force ∧ (enterPhase fromHold s).strain = s.strain ∧
    (enterPhase fromHold s).ext = s.ext ∧ (enterPhase fromHold s).motion.state = s.motion.state ∧
    (enterPhase fromHold s).motion.queue = s.motion.queue ∧
    (enterPhase fromHold s).motion.driveEn = s.motion.driveEn ∧
    (enterPhase fromHold s).motion.lastDemand = s.motion.lastDemand ∧
    (enterPhase fromHold s).motion.jog = s.motion.jog ∧
    (enterPhase fromHold s).motion.keepalive = s.motion.keepalive ∧
    (enterPhase fromHold s).motion.encCount = s.motion.encCount ∧
    (enterPhase fromHold s).motion.softLower = s.motion.softLower ∧
    (enterPhase fromHold s).motion.softUpper = s.motion.softUpper ∧
    (enterPhase fromHold s).motion.sign = s.motion.sign ∧ (enterPhase fromHold s).motion.refX = s.motion.refX ∧
    (enterPhase fromHold s).motion.encA = s.motion.encA ∧ (enterPhase fromHold s).motion.encB = s.motion.encB ∧
    (enterPhase fromHold s).motion.encErrors = s.motion.encErrors ∧
    (enterPhase fromHold s).motion.periodDue = s.motion.periodDue ∧
    (enterPhase fromHold s).motion.dwell = s.motion.dwell ∧
    (enterPhase fromHold s).motion.zeroRun = s.motion.zeroRun ∧
    (enterPhase fromHold s).motion.dest = s.motion.dest ∧ (enterPhase fromHold s).motion.blind = s.motion.blind ∧
    (enterPhase fromHold s).motion.lastWord = s.motion.lastWord ∧ (enterPhase fromHold s).loop.gPos = s.loop.gPos ∧
    (enterPhase fromHold s).loop.gStress = s.loop.gStress ∧ (enterPhase fromHold s).loop.gStrain = s.loop.gStrain ∧
    (enterPhase fromHold s).prot = s.prot ∧ (enterPhase fromHold s).seq.state = s.seq.state ∧
    (enterPhase fromHold s).seq.method = s.seq.method ∧ (enterPhase fromHold s).seq.phases = s.seq.phases ∧
    (enterPhase fromHold s).seq.phase = s.seq.phase ∧ (enterPhase fromHold s).seq.held = s.seq.held ∧
    (enterPhase fromHold s).seq.armedTrigger = s.seq.armedTrigger ∧
    (enterPhase fromHold s).seq.fractured = s.seq.fractured ∧
    (enterPhase fromHold s).seq.endReason = s.seq.endReason ∧
    (enterPhase fromHold s).seq.abortCause = s.seq.abortCause ∧
    (enterPhase fromHold s).seq.pendingExit = s.seq.pendingExit ∧ (enterPhase fromHold s).mon = s.mon ∧
    (enterPhase fromHold s).router.routes = s.router.routes ∧
    (enterPhase fromHold s).router.notices = s.router.notices ∧
    (enterPhase fromHold s).router.lost = s.router.lost ∧ (enterPhase fromHold s).ins = s.ins ∧
    (enterPhase fromHold s).outs = s.outs ∧ (enterPhase fromHold s).result = s.result ∧
    (enterPhase fromHold s).log = s.log ∧ (enterPhase fromHold s).time = s.time ∧
    (enterPhase fromHold s).host = s.host ∧ (enterPhase fromHold s).store = s.store ∧
    (enterPhase fromHold s).free = s.free := by
  simp only [enterPhase]; (repeat' split) <;> simp

@[simp] theorem immediateFault_frame (s : State) :
    (immediateFault s).pending = s.pending ∧ (immediateFault s).links = s.links ∧
    (immediateFault s).force = s.force ∧ (immediateFault s).strain = s.strain ∧ (immediateFault s).ext = s.ext ∧
    (immediateFault s).motion.encCount = s.motion.encCount ∧
    (immediateFault s).motion.softLower = s.motion.softLower ∧
    (immediateFault s).motion.softUpper = s.motion.softUpper ∧ (immediateFault s).motion.sign = s.motion.sign ∧
    (immediateFault s).motion.refX = s.motion.refX ∧ (immediateFault s).motion.encA = s.motion.encA ∧
    (immediateFault s).motion.encB = s.motion.encB ∧ (immediateFault s).motion.encErrors = s.motion.encErrors ∧
    (immediateFault s).motion.periodDue = s.motion.periodDue ∧ (immediateFault s).motion.dwell = s.motion.dwell ∧
    (immediateFault s).motion.zeroRun = s.motion.zeroRun ∧ (immediateFault s).motion.blind = s.motion.blind ∧
    (immediateFault s).motion.lastWord = s.motion.lastWord ∧ (immediateFault s).loop.gPos = s.loop.gPos ∧
    (immediateFault s).loop.gStress = s.loop.gStress ∧ (immediateFault s).loop.gStrain = s.loop.gStrain ∧
    (immediateFault s).loop.target = s.loop.target ∧ (immediateFault s).prot.latched = s.prot.latched ∧
    (immediateFault s).prot.overload = s.prot.overload ∧ (immediateFault s).prot.gripCount = s.prot.gripCount ∧
    (immediateFault s).seq = s.seq ∧ (immediateFault s).mon = s.mon ∧ (immediateFault s).router = s.router ∧
    (immediateFault s).ins = s.ins ∧ (immediateFault s).outs = s.outs ∧ (immediateFault s).result = s.result ∧
    (immediateFault s).log = s.log ∧ (immediateFault s).time = s.time ∧ (immediateFault s).host = s.host ∧
    (immediateFault s).store = s.store ∧ (immediateFault s).free = s.free := by
  simp [immediateFault]

@[simp] theorem stoppedFault_frame (s : State) :
    (stoppedFault s).pending = s.pending ∧ (stoppedFault s).links = s.links ∧ (stoppedFault s).force = s.force ∧
    (stoppedFault s).strain = s.strain ∧ (stoppedFault s).ext.primary = s.ext.primary ∧
    (stoppedFault s).ext.secondary = s.ext.secondary ∧ (stoppedFault s).ext.removal = s.ext.removal ∧
    (stoppedFault s).ext.slipM = s.ext.slipM ∧ (stoppedFault s).ext.slipX = s.ext.slipX ∧
    (stoppedFault s).motion.encCount = s.motion.encCount ∧ (stoppedFault s).motion.softLower = s.motion.softLower ∧
    (stoppedFault s).motion.softUpper = s.motion.softUpper ∧ (stoppedFault s).motion.sign = s.motion.sign ∧
    (stoppedFault s).motion.refX = s.motion.refX ∧ (stoppedFault s).motion.encA = s.motion.encA ∧
    (stoppedFault s).motion.encB = s.motion.encB ∧ (stoppedFault s).motion.encErrors = s.motion.encErrors ∧
    (stoppedFault s).motion.periodDue = s.motion.periodDue ∧ (stoppedFault s).motion.dwell = s.motion.dwell ∧
    (stoppedFault s).motion.zeroRun = s.motion.zeroRun ∧ (stoppedFault s).motion.blind = s.motion.blind ∧
    (stoppedFault s).motion.lastWord = s.motion.lastWord ∧ (stoppedFault s).loop.gPos = s.loop.gPos ∧
    (stoppedFault s).loop.gStress = s.loop.gStress ∧ (stoppedFault s).loop.gStrain = s.loop.gStrain ∧
    (stoppedFault s).loop.target = s.loop.target ∧ (stoppedFault s).prot.latched = s.prot.latched ∧
    (stoppedFault s).prot.overload = s.prot.overload ∧ (stoppedFault s).prot.gripCount = s.prot.gripCount ∧
    (stoppedFault s).seq.method = s.seq.method ∧ (stoppedFault s).seq.phases = s.seq.phases ∧
    (stoppedFault s).seq.phase = s.seq.phase ∧ (stoppedFault s).seq.held = s.seq.held ∧
    (stoppedFault s).seq.armedTrigger = s.seq.armedTrigger ∧ (stoppedFault s).seq.fractured = s.seq.fractured ∧
    (stoppedFault s).seq.endReason = s.seq.endReason ∧ (stoppedFault s).seq.abortCause = s.seq.abortCause ∧
    (stoppedFault s).seq.pendingExit = s.seq.pendingExit ∧ (stoppedFault s).seq.phaseStart = s.seq.phaseStart ∧
    (stoppedFault s).mon = s.mon ∧ (stoppedFault s).router.routes = s.router.routes ∧
    (stoppedFault s).router.notices = s.router.notices ∧ (stoppedFault s).router.lost = s.router.lost ∧
    (stoppedFault s).ins = s.ins ∧ (stoppedFault s).outs = s.outs ∧ (stoppedFault s).result.n = s.result.n ∧
    (stoppedFault s).result.fracArmed = s.result.fracArmed ∧ (stoppedFault s).log.interval = s.log.interval ∧
    (stoppedFault s).log.seqNo = s.log.seqNo ∧ (stoppedFault s).log.stream = s.log.stream ∧
    (stoppedFault s).log.firstSkipped = s.log.firstSkipped ∧ (stoppedFault s).time.testTime = s.time.testTime ∧
    (stoppedFault s).time.sec = s.time.sec ∧ (stoppedFault s).time.ns = s.time.ns ∧
    (stoppedFault s).time.frac = s.time.frac ∧ (stoppedFault s).time.step = s.time.step ∧
    (stoppedFault s).time.trim = s.time.trim ∧ (stoppedFault s).time.crystal = s.time.crystal ∧
    (stoppedFault s).time.msSeen = s.time.msSeen ∧ (stoppedFault s).host = s.host ∧
    (stoppedFault s).store = s.store ∧ (stoppedFault s).free = s.free := by
  simp only [stoppedFault]; (repeat' split) <;> simp

@[simp] theorem setupStop_frame (s : State) :
    (setupStop s).pending = s.pending ∧ (setupStop s).links = s.links ∧ (setupStop s).force = s.force ∧
    (setupStop s).strain = s.strain ∧ (setupStop s).ext.primary = s.ext.primary ∧
    (setupStop s).ext.secondary = s.ext.secondary ∧ (setupStop s).ext.removal = s.ext.removal ∧
    (setupStop s).ext.slipM = s.ext.slipM ∧ (setupStop s).ext.slipX = s.ext.slipX ∧
    (setupStop s).motion.encCount = s.motion.encCount ∧ (setupStop s).motion.softLower = s.motion.softLower ∧
    (setupStop s).motion.softUpper = s.motion.softUpper ∧ (setupStop s).motion.sign = s.motion.sign ∧
    (setupStop s).motion.refX = s.motion.refX ∧ (setupStop s).motion.encA = s.motion.encA ∧
    (setupStop s).motion.encB = s.motion.encB ∧ (setupStop s).motion.encErrors = s.motion.encErrors ∧
    (setupStop s).motion.periodDue = s.motion.periodDue ∧ (setupStop s).motion.dwell = s.motion.dwell ∧
    (setupStop s).motion.zeroRun = s.motion.zeroRun ∧ (setupStop s).motion.blind = s.motion.blind ∧
    (setupStop s).motion.lastWord = s.motion.lastWord ∧ (setupStop s).loop.gPos = s.loop.gPos ∧
    (setupStop s).loop.gStress = s.loop.gStress ∧ (setupStop s).loop.gStrain = s.loop.gStrain ∧
    (setupStop s).loop.target = s.loop.target ∧ (setupStop s).prot.latched = s.prot.latched ∧
    (setupStop s).prot.overload = s.prot.overload ∧ (setupStop s).prot.gripCount = s.prot.gripCount ∧
    (setupStop s).seq.method = s.seq.method ∧ (setupStop s).seq.phases = s.seq.phases ∧
    (setupStop s).seq.phase = s.seq.phase ∧ (setupStop s).seq.held = s.seq.held ∧
    (setupStop s).seq.armedTrigger = s.seq.armedTrigger ∧ (setupStop s).seq.fractured = s.seq.fractured ∧
    (setupStop s).seq.endReason = s.seq.endReason ∧ (setupStop s).seq.abortCause = s.seq.abortCause ∧
    (setupStop s).seq.pendingExit = s.seq.pendingExit ∧ (setupStop s).seq.phaseStart = s.seq.phaseStart ∧
    (setupStop s).mon = s.mon ∧ (setupStop s).router.routes = s.router.routes ∧
    (setupStop s).router.notices = s.router.notices ∧ (setupStop s).router.lost = s.router.lost ∧
    (setupStop s).ins = s.ins ∧ (setupStop s).outs = s.outs ∧ (setupStop s).result.n = s.result.n ∧
    (setupStop s).result.fracArmed = s.result.fracArmed ∧ (setupStop s).log.interval = s.log.interval ∧
    (setupStop s).log.seqNo = s.log.seqNo ∧ (setupStop s).log.stream = s.log.stream ∧
    (setupStop s).log.firstSkipped = s.log.firstSkipped ∧ (setupStop s).time.testTime = s.time.testTime ∧
    (setupStop s).time.sec = s.time.sec ∧ (setupStop s).time.ns = s.time.ns ∧
    (setupStop s).time.frac = s.time.frac ∧ (setupStop s).time.step = s.time.step ∧
    (setupStop s).time.trim = s.time.trim ∧ (setupStop s).time.crystal = s.time.crystal ∧
    (setupStop s).time.msSeen = s.time.msSeen ∧ (setupStop s).host = s.host ∧ (setupStop s).store = s.store ∧
    (setupStop s).free = s.free := by
  simp only [setupStop]; (repeat' split) <;> simp

/-! ## ExtOps -/

@[simp] theorem updExt_frame (x : ExtNo) (g : Ext → Ext) (s : State) :
    (updExt x g s).pending = s.pending ∧ (updExt x g s).links = s.links ∧ (updExt x g s).force = s.force ∧
    (updExt x g s).strain = s.strain ∧ (updExt x g s).motion = s.motion ∧ (updExt x g s).loop = s.loop ∧
    (updExt x g s).prot = s.prot ∧ (updExt x g s).seq = s.seq ∧ (updExt x g s).mon = s.mon ∧
    (updExt x g s).router = s.router ∧ (updExt x g s).ins = s.ins ∧ (updExt x g s).outs = s.outs ∧
    (updExt x g s).result = s.result ∧ (updExt x g s).log = s.log ∧ (updExt x g s).time = s.time ∧
    (updExt x g s).host = s.host ∧ (updExt x g s).store = s.store ∧ (updExt x g s).free = s.free := by
  simp [updExt]

@[simp] theorem updRemoval_frame (g : RemovalRecord → RemovalRecord) (s : State) :
    (updRemoval g s).pending = s.pending ∧ (updRemoval g s).links = s.links ∧ (updRemoval g s).force = s.force ∧
    (updRemoval g s).strain = s.strain ∧ (updRemoval g s).ext.primary = s.ext.primary ∧
    (updRemoval g s).ext.secondary = s.ext.secondary ∧ (updRemoval g s).ext.removeRequest = s.ext.removeRequest ∧
    (updRemoval g s).ext.slipM = s.ext.slipM ∧ (updRemoval g s).ext.slipX = s.ext.slipX ∧
    (updRemoval g s).motion = s.motion ∧ (updRemoval g s).loop = s.loop ∧ (updRemoval g s).prot = s.prot ∧
    (updRemoval g s).seq = s.seq ∧ (updRemoval g s).mon = s.mon ∧ (updRemoval g s).router = s.router ∧
    (updRemoval g s).ins = s.ins ∧ (updRemoval g s).outs = s.outs ∧ (updRemoval g s).result = s.result ∧
    (updRemoval g s).log = s.log ∧ (updRemoval g s).time = s.time ∧ (updRemoval g s).host = s.host ∧
    (updRemoval g s).store = s.store ∧ (updRemoval g s).free = s.free := by
  simp [updRemoval]

@[simp] theorem removePrimary_frame (s : State) :
    (removePrimary s).pending = s.pending ∧ (removePrimary s).links = s.links ∧ (removePrimary s).force = s.force ∧
    (removePrimary s).strain = s.strain ∧ (removePrimary s).motion = s.motion ∧ (removePrimary s).loop = s.loop ∧
    (removePrimary s).prot = s.prot ∧ (removePrimary s).seq = s.seq ∧ (removePrimary s).mon = s.mon ∧
    (removePrimary s).router = s.router ∧ (removePrimary s).ins = s.ins ∧ (removePrimary s).outs = s.outs ∧
    (removePrimary s).result = s.result ∧ (removePrimary s).log = s.log ∧ (removePrimary s).time = s.time ∧
    (removePrimary s).host = s.host ∧ (removePrimary s).store = s.store ∧ (removePrimary s).free = s.free := by
  simp [removePrimary]

@[simp] theorem beginRemoval_frame (mode : RemovalMode) (s : State) :
    (beginRemoval mode s).pending = s.pending ∧ (beginRemoval mode s).links = s.links ∧
    (beginRemoval mode s).force = s.force ∧ (beginRemoval mode s).strain = s.strain ∧
    (beginRemoval mode s).ext.primary = s.ext.primary ∧ (beginRemoval mode s).ext.secondary = s.ext.secondary ∧
    (beginRemoval mode s).ext.removeRequest = s.ext.removeRequest ∧ (beginRemoval mode s).ext.slipM = s.ext.slipM ∧
    (beginRemoval mode s).ext.slipX = s.ext.slipX ∧ (beginRemoval mode s).motion = s.motion ∧
    (beginRemoval mode s).loop = s.loop ∧ (beginRemoval mode s).prot = s.prot ∧ (beginRemoval mode s).seq = s.seq ∧
    (beginRemoval mode s).mon = s.mon ∧ (beginRemoval mode s).router = s.router ∧
    (beginRemoval mode s).ins = s.ins ∧ (beginRemoval mode s).outs = s.outs ∧
    (beginRemoval mode s).result = s.result ∧ (beginRemoval mode s).log = s.log ∧
    (beginRemoval mode s).time = s.time ∧ (beginRemoval mode s).host = s.host ∧
    (beginRemoval mode s).store = s.store ∧ (beginRemoval mode s).free = s.free := by
  simp [beginRemoval]

@[simp] theorem abandonIfOver_frame (s : State) :
    (abandonIfOver s).pending = s.pending ∧ (abandonIfOver s).links = s.links ∧ (abandonIfOver s).force = s.force ∧
    (abandonIfOver s).strain = s.strain ∧ (abandonIfOver s).ext.secondary = s.ext.secondary ∧
    (abandonIfOver s).ext.slipM = s.ext.slipM ∧ (abandonIfOver s).ext.slipX = s.ext.slipX ∧
    (abandonIfOver s).motion = s.motion ∧ (abandonIfOver s).loop = s.loop ∧ (abandonIfOver s).prot = s.prot ∧
    (abandonIfOver s).seq = s.seq ∧ (abandonIfOver s).mon = s.mon ∧ (abandonIfOver s).router = s.router ∧
    (abandonIfOver s).ins = s.ins ∧ (abandonIfOver s).outs = s.outs ∧ (abandonIfOver s).result.n = s.result.n ∧
    (abandonIfOver s).result.fracArmed = s.result.fracArmed ∧ (abandonIfOver s).log = s.log ∧
    (abandonIfOver s).time = s.time ∧ (abandonIfOver s).host = s.host ∧ (abandonIfOver s).store = s.store ∧
    (abandonIfOver s).free = s.free := by
  simp only [abandonIfOver]; (repeat' split) <;> simp

/-! ## Firings -/

/-- What the giving on of a firing leaves alone, whatever it brings about (08 R154). -/
abbrev Keeps (f : State → State) : Prop :=
  ∀ s : State,
    (f s).pending = s.pending ∧ (f s).links = s.links ∧ (f s).force = s.force ∧
    (f s).strain.specimen = s.strain.specimen ∧ (f s).strain.stress = s.strain.stress ∧
    (f s).strain.stressSat = s.strain.stressSat ∧
    (f s).strain.setSource = s.strain.setSource ∧ (f s).motion.encCount = s.motion.encCount ∧
    (f s).motion.softLower = s.motion.softLower ∧ (f s).motion.softUpper = s.motion.softUpper ∧
    (f s).motion.sign = s.motion.sign ∧ (f s).motion.refX = s.motion.refX ∧ (f s).motion.encA = s.motion.encA ∧
    (f s).motion.encB = s.motion.encB ∧ (f s).motion.encErrors = s.motion.encErrors ∧
    (f s).motion.periodDue = s.motion.periodDue ∧ (f s).motion.dwell = s.motion.dwell ∧
    (f s).motion.zeroRun = s.motion.zeroRun ∧ (f s).motion.blind = s.motion.blind ∧
    (f s).motion.lastWord = s.motion.lastWord ∧ (f s).loop.gPos = s.loop.gPos ∧
    (f s).loop.gStress = s.loop.gStress ∧ (f s).loop.gStrain = s.loop.gStrain ∧
    (f s).prot.latched = s.prot.latched ∧ (f s).prot.overload = s.prot.overload ∧
    (f s).prot.gripCount = s.prot.gripCount ∧ (f s).seq.method = s.seq.method ∧ (f s).seq.phases = s.seq.phases ∧
    (f s).seq.armedTrigger = s.seq.armedTrigger ∧ (f s).seq.fractured = s.seq.fractured ∧
    (f s).seq.abortCause = s.seq.abortCause ∧ (f s).router.routes = s.router.routes ∧
    (f s).router.notices = s.router.notices ∧ (f s).router.lost = s.router.lost ∧ (f s).ins = s.ins ∧
    (f s).outs = s.outs ∧ (f s).log.interval = s.log.interval ∧ (f s).log.seqNo = s.log.seqNo ∧
    (f s).log.stream = s.log.stream ∧ (f s).log.firstSkipped = s.log.firstSkipped ∧
    (f s).time.testTime = s.time.testTime ∧ (f s).time.sec = s.time.sec ∧ (f s).time.ns = s.time.ns ∧
    (f s).time.frac = s.time.frac ∧ (f s).time.step = s.time.step ∧ (f s).time.trim = s.time.trim ∧
    (f s).time.crystal = s.time.crystal ∧ (f s).time.msSeen = s.time.msSeen ∧ (f s).host = s.host ∧
    (f s).store = s.store ∧ (f s).free = s.free

theorem enterNext_keeps {give : Bool → State → State} (hg : ∀ e, Keeps (give e)) (fromHold : Bool) :
    Keeps (enterNext give fromHold) := by
  intro s
  simp only [enterNext]
  (repeat' split) <;> simp [hg]

theorem takeExit_keeps {give : Bool → State → State} (hg : ∀ e, Keeps (give e)) (fuel : Nat) (fromHold : Bool) :
    Keeps (takeExit give fuel fromHold) := by
  induction fuel generalizing fromHold with
  | zero => intro s; simp [takeExit]
  | succ n ih => intro s; simp only [takeExit]; (repeat' split) <;> simp [ih, enterNext_keeps hg]

theorem leavePhase_keeps {give : Bool → State → State} (hg : ∀ e, Keeps (give e)) (fromHold : Bool) :
    Keeps (leavePhase give fromHold) := by
  intro s
  simp [leavePhase, takeExit_keeps hg]

theorem exitMet_keeps {give : Bool → State → State} (hg : ∀ e, Keeps (give e)) :
    Keeps (exitMet give) := by
  intro s
  simp only [exitMet]
  (repeat' split) <;> simp [leavePhase_keeps hg]

theorem tellExit_keeps {give : Bool → State → State} (hg : ∀ e, Keeps (give e)) (k : ExitKind) :
    Keeps (tellExit give k) := by
  intro s
  simp only [tellExit]
  (repeat' split) <;> simp [exitMet_keeps hg]

theorem heldLeft_keeps {give : Bool → State → State} (hg : ∀ e, Keeps (give e)) :
    Keeps (heldLeft give) := by
  intro s
  simp only [heldLeft]
  (repeat' split) <;> simp [leavePhase_keeps hg]

theorem handOver_keeps {give : Bool → State → State} (hg : ∀ e, Keeps (give e)) (new : Source) :
    Keeps (handOver give new) := by
  intro s
  simp only [handOver]
  (repeat' split) <;> simp [hg, tellExit_keeps hg]

theorem orderHandover_keeps {give : Bool → State → State} (hg : ∀ e, Keeps (give e)) (x : ExtNo) :
    Keeps (orderHandover give x) := by
  intro s
  simp only [orderHandover]
  (repeat' split) <;> simp [handOver_keeps hg]

theorem confirmRemoval_keeps {give : Bool → State → State} (hg : ∀ e, Keeps (give e)) (kind : Confirmation) :
    Keeps (confirmRemoval give kind) := by
  intro s
  simp only [confirmRemoval]
  (repeat' split) <;> simp [orderHandover_keeps hg, heldLeft_keeps hg]

theorem askRemoval_keeps {give : Bool → State → State} (hg : ∀ e, Keeps (give e)) (strain : Int) :
    Keeps (askRemoval give strain) := by
  intro s
  simp only [askRemoval]
  (repeat' split) <;> simp [confirmRemoval_keeps hg]

theorem startPause_keeps {give : Bool → State → State} (hg : ∀ e, Keeps (give e)) :
    Keeps (startPause give) := by
  intro s
  simp [startPause, askRemoval_keeps hg]

theorem startFly_keeps {give : Bool → State → State} (hg : ∀ e, Keeps (give e)) :
    Keeps (startFly give) := by
  intro s
  simp [startFly, askRemoval_keeps hg, orderHandover_keeps hg]

theorem removalCondition_keeps {give : Bool → State → State} (hg : ∀ e, Keeps (give e)) (c : RemovalCond) :
    Keeps (removalCondition give c) := by
  intro s
  simp only [removalCondition]
  (repeat' split) <;> simp [startPause_keeps hg, startFly_keeps hg]

theorem giveFiring_keeps {give : Bool → State → State} (hg : ∀ e, Keeps (give e)) (inExit : Bool) (m : Fin 8)
    (v : Int) : Keeps (giveFiring give inExit m v) := by
  intro s
  simp only [giveFiring]
  (repeat' split) <;> simp [exitMet_keeps hg, removalCondition_keeps hg]

theorem giveKept_keeps (fuel : Nat) (inExit : Bool) : Keeps (giveKept fuel inExit) := by
  induction fuel generalizing inExit with
  | zero => intro s; simp [giveKept]
  | succ n ih =>
    have step : ∀ (l : List (Fin 8 × Int)), Keeps (fun t =>
        l.foldl (fun t f => giveFiring (fun e => giveKept n (inExit || e)) inExit f.1 f.2 t) t) := by
      intro l
      induction l with
      | nil => intro s; simp
      | cons a l il =>
        intro s
        have h := il (giveFiring (fun e => giveKept n (inExit || e)) inExit a.1 a.2 s)
        simp only [giveFiring_keeps (fun e => ih (inExit || e)) inExit a.1 a.2 s] at h
        exact h
    intro s
    have h := step s.mon.fired { s with mon := { s.mon with fired := [] } }
    exact h

@[simp] theorem giveFirings_frame (inExit : Bool) : Keeps (giveFirings inExit) := giveKept_keeps 8 inExit

@[simp] theorem leavePhase_frame (fromHold : Bool) : Keeps (leavePhase giveFirings fromHold) :=
  leavePhase_keeps giveFirings_frame fromHold

@[simp] theorem exitMet_frame : Keeps (exitMet giveFirings) :=
  exitMet_keeps giveFirings_frame

@[simp] theorem tellExit_frame (k : ExitKind) : Keeps (tellExit giveFirings k) :=
  tellExit_keeps giveFirings_frame k

@[simp] theorem heldLeft_frame : Keeps (heldLeft giveFirings) :=
  heldLeft_keeps giveFirings_frame

@[simp] theorem handOver_frame (new : Source) : Keeps (handOver giveFirings new) :=
  handOver_keeps giveFirings_frame new

@[simp] theorem orderHandover_frame (x : ExtNo) : Keeps (orderHandover giveFirings x) :=
  orderHandover_keeps giveFirings_frame x

@[simp] theorem confirmRemoval_frame (kind : Confirmation) : Keeps (confirmRemoval giveFirings kind) :=
  confirmRemoval_keeps giveFirings_frame kind

@[simp] theorem askRemoval_frame (strain : Int) : Keeps (askRemoval giveFirings strain) :=
  askRemoval_keeps giveFirings_frame strain

@[simp] theorem startPause_frame : Keeps (startPause giveFirings) :=
  startPause_keeps giveFirings_frame

@[simp] theorem startFly_frame : Keeps (startFly giveFirings) :=
  startFly_keeps giveFirings_frame

@[simp] theorem removalCondition_frame (c : RemovalCond) : Keeps (removalCondition giveFirings c) :=
  removalCondition_keeps giveFirings_frame c

@[simp] theorem giveFiring_frame (inExit : Bool) (m : Fin 8) (v : Int) :
    Keeps (giveFiring giveFirings inExit m v) :=
  giveFiring_keeps giveFirings_frame inExit m v

/-! ## ExtOps, on -/

@[simp] theorem expireRemoval_frame (s : State) :
    (expireRemoval s).pending = s.pending ∧ (expireRemoval s).links = s.links ∧ (expireRemoval s).force = s.force ∧
    (expireRemoval s).strain = s.strain ∧ (expireRemoval s).motion = s.motion ∧ (expireRemoval s).loop = s.loop ∧
    (expireRemoval s).prot = s.prot ∧ (expireRemoval s).seq = s.seq ∧ (expireRemoval s).mon = s.mon ∧
    (expireRemoval s).router.routes = s.router.routes ∧ (expireRemoval s).router.notices = s.router.notices ∧
    (expireRemoval s).router.lost = s.router.lost ∧ (expireRemoval s).ins = s.ins ∧
    (expireRemoval s).outs = s.outs ∧ (expireRemoval s).result.n = s.result.n ∧
    (expireRemoval s).result.fracArmed = s.result.fracArmed ∧ (expireRemoval s).log = s.log ∧
    (expireRemoval s).time = s.time ∧ (expireRemoval s).host = s.host ∧ (expireRemoval s).store = s.store ∧
    (expireRemoval s).free = s.free := by
  simp only [expireRemoval]; (repeat' split) <;> simp

@[simp] theorem failZero_frame (x : ExtNo) (cause : Int) (s : State) :
    (failZero x cause s).pending = s.pending ∧ (failZero x cause s).links = s.links ∧
    (failZero x cause s).force = s.force ∧ (failZero x cause s).strain = s.strain ∧
    (failZero x cause s).motion = s.motion ∧ (failZero x cause s).loop = s.loop ∧
    (failZero x cause s).prot = s.prot ∧ (failZero x cause s).seq = s.seq ∧ (failZero x cause s).mon = s.mon ∧
    (failZero x cause s).router.routes = s.router.routes ∧ (failZero x cause s).router.notices = s.router.notices ∧
    (failZero x cause s).router.lost = s.router.lost ∧ (failZero x cause s).ins = s.ins ∧
    (failZero x cause s).outs = s.outs ∧ (failZero x cause s).result = s.result ∧ (failZero x cause s).log = s.log ∧
    (failZero x cause s).time = s.time ∧ (failZero x cause s).host = s.host ∧ (failZero x cause s).store = s.store ∧
    (failZero x cause s).free = s.free := by
  simp only [failZero]; (repeat' split) <;> simp

@[simp] theorem armsChange_frame (asserted : Bool) (s : State) :
    (armsChange asserted s).pending = s.pending ∧ (armsChange asserted s).links = s.links ∧
    (armsChange asserted s).force = s.force ∧ (armsChange asserted s).strain.specimen = s.strain.specimen ∧
    (armsChange asserted s).strain.stress = s.strain.stress ∧
    (armsChange asserted s).strain.stressSat = s.strain.stressSat ∧
    (armsChange asserted s).strain.setSource = s.strain.setSource ∧
    (armsChange asserted s).motion.encCount = s.motion.encCount ∧
    (armsChange asserted s).motion.softLower = s.motion.softLower ∧
    (armsChange asserted s).motion.softUpper = s.motion.softUpper ∧
    (armsChange asserted s).motion.sign = s.motion.sign ∧ (armsChange asserted s).motion.refX = s.motion.refX ∧
    (armsChange asserted s).motion.encA = s.motion.encA ∧ (armsChange asserted s).motion.encB = s.motion.encB ∧
    (armsChange asserted s).motion.encErrors = s.motion.encErrors ∧
    (armsChange asserted s).motion.periodDue = s.motion.periodDue ∧
    (armsChange asserted s).motion.dwell = s.motion.dwell ∧
    (armsChange asserted s).motion.zeroRun = s.motion.zeroRun ∧
    (armsChange asserted s).motion.blind = s.motion.blind ∧
    (armsChange asserted s).motion.lastWord = s.motion.lastWord ∧ (armsChange asserted s).loop.gPos = s.loop.gPos ∧
    (armsChange asserted s).loop.gStress = s.loop.gStress ∧ (armsChange asserted s).loop.gStrain = s.loop.gStrain ∧
    (armsChange asserted s).prot.latched = s.prot.latched ∧
    (armsChange asserted s).prot.overload = s.prot.overload ∧
    (armsChange asserted s).prot.gripCount = s.prot.gripCount ∧ (armsChange asserted s).seq.method = s.seq.method ∧
    (armsChange asserted s).seq.phases = s.seq.phases ∧
    (armsChange asserted s).seq.armedTrigger = s.seq.armedTrigger ∧
    (armsChange asserted s).seq.fractured = s.seq.fractured ∧
    (armsChange asserted s).seq.abortCause = s.seq.abortCause ∧
    (armsChange asserted s).router.routes = s.router.routes ∧
    (armsChange asserted s).router.notices = s.router.notices ∧
    (armsChange asserted s).router.lost = s.router.lost ∧ (armsChange asserted s).ins = s.ins ∧
    (armsChange asserted s).outs = s.outs ∧ (armsChange asserted s).log.interval = s.log.interval ∧
    (armsChange asserted s).log.seqNo = s.log.seqNo ∧ (armsChange asserted s).log.stream = s.log.stream ∧
    (armsChange asserted s).log.firstSkipped = s.log.firstSkipped ∧
    (armsChange asserted s).time.testTime = s.time.testTime ∧ (armsChange asserted s).time.sec = s.time.sec ∧
    (armsChange asserted s).time.ns = s.time.ns ∧ (armsChange asserted s).time.frac = s.time.frac ∧
    (armsChange asserted s).time.step = s.time.step ∧ (armsChange asserted s).time.trim = s.time.trim ∧
    (armsChange asserted s).time.crystal = s.time.crystal ∧ (armsChange asserted s).time.msSeen = s.time.msSeen ∧
    (armsChange asserted s).host = s.host ∧ (armsChange asserted s).store = s.store ∧
    (armsChange asserted s).free = s.free := by
  simp only [armsChange]; (repeat' split) <;> simp

@[simp] theorem loseWithHandover_frame (x : ExtNo) (s : State) :
    (loseWithHandover x s).pending = s.pending ∧ (loseWithHandover x s).links = s.links ∧
    (loseWithHandover x s).force = s.force ∧ (loseWithHandover x s).strain.specimen = s.strain.specimen ∧
    (loseWithHandover x s).strain.stress = s.strain.stress ∧
    (loseWithHandover x s).strain.stressSat = s.strain.stressSat ∧
    (loseWithHandover x s).strain.setSource = s.strain.setSource ∧
    (loseWithHandover x s).motion.encCount = s.motion.encCount ∧
    (loseWithHandover x s).motion.softLower = s.motion.softLower ∧
    (loseWithHandover x s).motion.softUpper = s.motion.softUpper ∧
    (loseWithHandover x s).motion.sign = s.motion.sign ∧ (loseWithHandover x s).motion.refX = s.motion.refX ∧
    (loseWithHandover x s).motion.encA = s.motion.encA ∧ (loseWithHandover x s).motion.encB = s.motion.encB ∧
    (loseWithHandover x s).motion.encErrors = s.motion.encErrors ∧
    (loseWithHandover x s).motion.periodDue = s.motion.periodDue ∧
    (loseWithHandover x s).motion.dwell = s.motion.dwell ∧
    (loseWithHandover x s).motion.zeroRun = s.motion.zeroRun ∧
    (loseWithHandover x s).motion.blind = s.motion.blind ∧
    (loseWithHandover x s).motion.lastWord = s.motion.lastWord ∧ (loseWithHandover x s).loop.gPos = s.loop.gPos ∧
    (loseWithHandover x s).loop.gStress = s.loop.gStress ∧ (loseWithHandover x s).loop.gStrain = s.loop.gStrain ∧
    (loseWithHandover x s).prot.latched = s.prot.latched ∧ (loseWithHandover x s).prot.overload = s.prot.overload ∧
    (loseWithHandover x s).prot.gripCount = s.prot.gripCount ∧ (loseWithHandover x s).seq.method = s.seq.method ∧
    (loseWithHandover x s).seq.phases = s.seq.phases ∧
    (loseWithHandover x s).seq.armedTrigger = s.seq.armedTrigger ∧
    (loseWithHandover x s).seq.fractured = s.seq.fractured ∧
    (loseWithHandover x s).seq.abortCause = s.seq.abortCause ∧
    (loseWithHandover x s).router.routes = s.router.routes ∧
    (loseWithHandover x s).router.notices = s.router.notices ∧ (loseWithHandover x s).router.lost = s.router.lost ∧
    (loseWithHandover x s).ins = s.ins ∧ (loseWithHandover x s).outs = s.outs ∧
    (loseWithHandover x s).log.interval = s.log.interval ∧ (loseWithHandover x s).log.seqNo = s.log.seqNo ∧
    (loseWithHandover x s).log.stream = s.log.stream ∧
    (loseWithHandover x s).log.firstSkipped = s.log.firstSkipped ∧
    (loseWithHandover x s).time.testTime = s.time.testTime ∧ (loseWithHandover x s).time.sec = s.time.sec ∧
    (loseWithHandover x s).time.ns = s.time.ns ∧ (loseWithHandover x s).time.frac = s.time.frac ∧
    (loseWithHandover x s).time.step = s.time.step ∧ (loseWithHandover x s).time.trim = s.time.trim ∧
    (loseWithHandover x s).time.crystal = s.time.crystal ∧ (loseWithHandover x s).time.msSeen = s.time.msSeen ∧
    (loseWithHandover x s).host = s.host ∧ (loseWithHandover x s).store = s.store ∧
    (loseWithHandover x s).free = s.free := by
  simp [loseWithHandover]

@[simp] theorem extUnlocked_frame (x : ExtNo) (s : State) :
    (extUnlocked x s).pending = s.pending ∧ (extUnlocked x s).links = s.links ∧ (extUnlocked x s).force = s.force ∧
    (extUnlocked x s).strain.specimen = s.strain.specimen ∧ (extUnlocked x s).strain.stress = s.strain.stress ∧
    (extUnlocked x s).strain.stressSat = s.strain.stressSat ∧
    (extUnlocked x s).strain.setSource = s.strain.setSource ∧
    (extUnlocked x s).motion.encCount = s.motion.encCount ∧
    (extUnlocked x s).motion.softLower = s.motion.softLower ∧
    (extUnlocked x s).motion.softUpper = s.motion.softUpper ∧ (extUnlocked x s).motion.sign = s.motion.sign ∧
    (extUnlocked x s).motion.refX = s.motion.refX ∧ (extUnlocked x s).motion.encA = s.motion.encA ∧
    (extUnlocked x s).motion.encB = s.motion.encB ∧ (extUnlocked x s).motion.encErrors = s.motion.encErrors ∧
    (extUnlocked x s).motion.periodDue = s.motion.periodDue ∧ (extUnlocked x s).motion.dwell = s.motion.dwell ∧
    (extUnlocked x s).motion.zeroRun = s.motion.zeroRun ∧ (extUnlocked x s).motion.blind = s.motion.blind ∧
    (extUnlocked x s).motion.lastWord = s.motion.lastWord ∧ (extUnlocked x s).loop.gPos = s.loop.gPos ∧
    (extUnlocked x s).loop.gStress = s.loop.gStress ∧ (extUnlocked x s).loop.gStrain = s.loop.gStrain ∧
    (extUnlocked x s).prot.latched = s.prot.latched ∧ (extUnlocked x s).prot.overload = s.prot.overload ∧
    (extUnlocked x s).prot.gripCount = s.prot.gripCount ∧ (extUnlocked x s).seq.method = s.seq.method ∧
    (extUnlocked x s).seq.phases = s.seq.phases ∧ (extUnlocked x s).seq.armedTrigger = s.seq.armedTrigger ∧
    (extUnlocked x s).seq.fractured = s.seq.fractured ∧ (extUnlocked x s).seq.abortCause = s.seq.abortCause ∧
    (extUnlocked x s).router.routes = s.router.routes ∧ (extUnlocked x s).router.notices = s.router.notices ∧
    (extUnlocked x s).router.lost = s.router.lost ∧ (extUnlocked x s).ins = s.ins ∧
    (extUnlocked x s).outs = s.outs ∧ (extUnlocked x s).log.interval = s.log.interval ∧
    (extUnlocked x s).log.seqNo = s.log.seqNo ∧ (extUnlocked x s).log.stream = s.log.stream ∧
    (extUnlocked x s).log.firstSkipped = s.log.firstSkipped ∧ (extUnlocked x s).time.testTime = s.time.testTime ∧
    (extUnlocked x s).time.sec = s.time.sec ∧ (extUnlocked x s).time.ns = s.time.ns ∧
    (extUnlocked x s).time.frac = s.time.frac ∧ (extUnlocked x s).time.step = s.time.step ∧
    (extUnlocked x s).time.trim = s.time.trim ∧ (extUnlocked x s).time.crystal = s.time.crystal ∧
    (extUnlocked x s).time.msSeen = s.time.msSeen ∧ (extUnlocked x s).host = s.host ∧
    (extUnlocked x s).store = s.store ∧ (extUnlocked x s).free = s.free := by
  simp only [extUnlocked]; (repeat' split) <;> simp

@[simp] theorem extLockedNow_frame (x : ExtNo) (s : State) :
    (extLockedNow x s).pending = s.pending ∧ (extLockedNow x s).links = s.links ∧
    (extLockedNow x s).force = s.force ∧ (extLockedNow x s).strain = s.strain ∧
    (extLockedNow x s).motion = s.motion ∧ (extLockedNow x s).loop = s.loop ∧ (extLockedNow x s).prot = s.prot ∧
    (extLockedNow x s).seq = s.seq ∧ (extLockedNow x s).mon = s.mon ∧ (extLockedNow x s).router = s.router ∧
    (extLockedNow x s).ins = s.ins ∧ (extLockedNow x s).outs = s.outs ∧ (extLockedNow x s).result = s.result ∧
    (extLockedNow x s).log = s.log ∧ (extLockedNow x s).time = s.time ∧ (extLockedNow x s).host = s.host ∧
    (extLockedNow x s).store = s.store ∧ (extLockedNow x s).free = s.free := by
  simp only [extLockedNow]; (repeat' split) <;> simp

@[simp] theorem extLinkChange_frame (x : ExtNo) (locked : Bool) (s : State) :
    (extLinkChange x locked s).pending = s.pending ∧ (extLinkChange x locked s).links = s.links ∧
    (extLinkChange x locked s).force = s.force ∧ (extLinkChange x locked s).strain.specimen = s.strain.specimen ∧
    (extLinkChange x locked s).strain.stress = s.strain.stress ∧
    (extLinkChange x locked s).strain.stressSat = s.strain.stressSat ∧
    (extLinkChange x locked s).strain.setSource = s.strain.setSource ∧
    (extLinkChange x locked s).motion.encCount = s.motion.encCount ∧
    (extLinkChange x locked s).motion.softLower = s.motion.softLower ∧
    (extLinkChange x locked s).motion.softUpper = s.motion.softUpper ∧
    (extLinkChange x locked s).motion.sign = s.motion.sign ∧
    (extLinkChange x locked s).motion.refX = s.motion.refX ∧
    (extLinkChange x locked s).motion.encA = s.motion.encA ∧
    (extLinkChange x locked s).motion.encB = s.motion.encB ∧
    (extLinkChange x locked s).motion.encErrors = s.motion.encErrors ∧
    (extLinkChange x locked s).motion.periodDue = s.motion.periodDue ∧
    (extLinkChange x locked s).motion.dwell = s.motion.dwell ∧
    (extLinkChange x locked s).motion.zeroRun = s.motion.zeroRun ∧
    (extLinkChange x locked s).motion.blind = s.motion.blind ∧
    (extLinkChange x locked s).motion.lastWord = s.motion.lastWord ∧
    (extLinkChange x locked s).loop.gPos = s.loop.gPos ∧ (extLinkChange x locked s).loop.gStress = s.loop.gStress ∧
    (extLinkChange x locked s).loop.gStrain = s.loop.gStrain ∧
    (extLinkChange x locked s).prot.latched = s.prot.latched ∧
    (extLinkChange x locked s).prot.overload = s.prot.overload ∧
    (extLinkChange x locked s).prot.gripCount = s.prot.gripCount ∧
    (extLinkChange x locked s).seq.method = s.seq.method ∧ (extLinkChange x locked s).seq.phases = s.seq.phases ∧
    (extLinkChange x locked s).seq.armedTrigger = s.seq.armedTrigger ∧
    (extLinkChange x locked s).seq.fractured = s.seq.fractured ∧
    (extLinkChange x locked s).seq.abortCause = s.seq.abortCause ∧
    (extLinkChange x locked s).router.routes = s.router.routes ∧
    (extLinkChange x locked s).router.notices = s.router.notices ∧
    (extLinkChange x locked s).router.lost = s.router.lost ∧ (extLinkChange x locked s).ins = s.ins ∧
    (extLinkChange x locked s).outs = s.outs ∧ (extLinkChange x locked s).log.interval = s.log.interval ∧
    (extLinkChange x locked s).log.seqNo = s.log.seqNo ∧ (extLinkChange x locked s).log.stream = s.log.stream ∧
    (extLinkChange x locked s).log.firstSkipped = s.log.firstSkipped ∧
    (extLinkChange x locked s).time.testTime = s.time.testTime ∧ (extLinkChange x locked s).time.sec = s.time.sec ∧
    (extLinkChange x locked s).time.ns = s.time.ns ∧ (extLinkChange x locked s).time.frac = s.time.frac ∧
    (extLinkChange x locked s).time.step = s.time.step ∧ (extLinkChange x locked s).time.trim = s.time.trim ∧
    (extLinkChange x locked s).time.crystal = s.time.crystal ∧
    (extLinkChange x locked s).time.msSeen = s.time.msSeen ∧ (extLinkChange x locked s).host = s.host ∧
    (extLinkChange x locked s).store = s.store ∧ (extLinkChange x locked s).free = s.free := by
  simp only [extLinkChange]; (repeat' split) <;> simp

@[simp] theorem takeRaw_frame (x : ExtNo) (raw : Int) (s : State) :
    (takeRaw x raw s).pending = s.pending ∧ (takeRaw x raw s).links = s.links ∧ (takeRaw x raw s).force = s.force ∧
    (takeRaw x raw s).strain = s.strain ∧ (takeRaw x raw s).motion = s.motion ∧ (takeRaw x raw s).loop = s.loop ∧
    (takeRaw x raw s).prot = s.prot ∧ (takeRaw x raw s).seq = s.seq ∧ (takeRaw x raw s).mon = s.mon ∧
    (takeRaw x raw s).router = s.router ∧ (takeRaw x raw s).ins = s.ins ∧ (takeRaw x raw s).outs = s.outs ∧
    (takeRaw x raw s).result = s.result ∧ (takeRaw x raw s).log = s.log ∧ (takeRaw x raw s).time = s.time ∧
    (takeRaw x raw s).host = s.host ∧ (takeRaw x raw s).store = s.store ∧ (takeRaw x raw s).free = s.free := by
  simp [takeRaw]

@[simp] theorem applyZeroing_frame (x : ExtNo) (raw : Int) (s : State) :
    (applyZeroing x raw s).pending = s.pending ∧ (applyZeroing x raw s).links = s.links ∧
    (applyZeroing x raw s).force = s.force ∧ (applyZeroing x raw s).strain = s.strain ∧
    (applyZeroing x raw s).motion = s.motion ∧ (applyZeroing x raw s).loop = s.loop ∧
    (applyZeroing x raw s).prot = s.prot ∧ (applyZeroing x raw s).seq = s.seq ∧ (applyZeroing x raw s).mon = s.mon ∧
    (applyZeroing x raw s).router.routes = s.router.routes ∧
    (applyZeroing x raw s).router.notices = s.router.notices ∧ (applyZeroing x raw s).router.lost = s.router.lost ∧
    (applyZeroing x raw s).ins = s.ins ∧ (applyZeroing x raw s).outs = s.outs ∧
    (applyZeroing x raw s).result = s.result ∧ (applyZeroing x raw s).log = s.log ∧
    (applyZeroing x raw s).time = s.time ∧ (applyZeroing x raw s).host = s.host ∧
    (applyZeroing x raw s).store = s.store ∧ (applyZeroing x raw s).free = s.free := by
  simp only [applyZeroing]; (repeat' split) <;> simp

@[simp] theorem guardAction_frame (x : ExtNo) (raw : Int) (s : State) :
    (guardAction x raw s).pending = s.pending ∧ (guardAction x raw s).links = s.links ∧
    (guardAction x raw s).force = s.force ∧ (guardAction x raw s).strain.specimen = s.strain.specimen ∧
    (guardAction x raw s).strain.stress = s.strain.stress ∧
    (guardAction x raw s).strain.stressSat = s.strain.stressSat ∧
    (guardAction x raw s).strain.setSource = s.strain.setSource ∧
    (guardAction x raw s).motion.encCount = s.motion.encCount ∧
    (guardAction x raw s).motion.softLower = s.motion.softLower ∧
    (guardAction x raw s).motion.softUpper = s.motion.softUpper ∧
    (guardAction x raw s).motion.sign = s.motion.sign ∧ (guardAction x raw s).motion.refX = s.motion.refX ∧
    (guardAction x raw s).motion.encA = s.motion.encA ∧ (guardAction x raw s).motion.encB = s.motion.encB ∧
    (guardAction x raw s).motion.encErrors = s.motion.encErrors ∧
    (guardAction x raw s).motion.periodDue = s.motion.periodDue ∧
    (guardAction x raw s).motion.dwell = s.motion.dwell ∧ (guardAction x raw s).motion.zeroRun = s.motion.zeroRun ∧
    (guardAction x raw s).motion.blind = s.motion.blind ∧
    (guardAction x raw s).motion.lastWord = s.motion.lastWord ∧ (guardAction x raw s).loop.gPos = s.loop.gPos ∧
    (guardAction x raw s).loop.gStress = s.loop.gStress ∧ (guardAction x raw s).loop.gStrain = s.loop.gStrain ∧
    (guardAction x raw s).prot.latched = s.prot.latched ∧ (guardAction x raw s).prot.overload = s.prot.overload ∧
    (guardAction x raw s).prot.gripCount = s.prot.gripCount ∧ (guardAction x raw s).seq.method = s.seq.method ∧
    (guardAction x raw s).seq.phases = s.seq.phases ∧ (guardAction x raw s).seq.armedTrigger = s.seq.armedTrigger ∧
    (guardAction x raw s).seq.fractured = s.seq.fractured ∧
    (guardAction x raw s).seq.abortCause = s.seq.abortCause ∧
    (guardAction x raw s).router.routes = s.router.routes ∧
    (guardAction x raw s).router.notices = s.router.notices ∧ (guardAction x raw s).router.lost = s.router.lost ∧
    (guardAction x raw s).ins = s.ins ∧ (guardAction x raw s).outs = s.outs ∧
    (guardAction x raw s).log.interval = s.log.interval ∧ (guardAction x raw s).log.seqNo = s.log.seqNo ∧
    (guardAction x raw s).log.stream = s.log.stream ∧ (guardAction x raw s).log.firstSkipped = s.log.firstSkipped ∧
    (guardAction x raw s).time.testTime = s.time.testTime ∧ (guardAction x raw s).time.sec = s.time.sec ∧
    (guardAction x raw s).time.ns = s.time.ns ∧ (guardAction x raw s).time.frac = s.time.frac ∧
    (guardAction x raw s).time.step = s.time.step ∧ (guardAction x raw s).time.trim = s.time.trim ∧
    (guardAction x raw s).time.crystal = s.time.crystal ∧ (guardAction x raw s).time.msSeen = s.time.msSeen ∧
    (guardAction x raw s).host = s.host ∧ (guardAction x raw s).store = s.store ∧
    (guardAction x raw s).free = s.free := by
  simp only [guardAction]; (repeat' split) <;> simp

@[simp] theorem testGuard_frame (x : ExtNo) (flag : Bool) (raw : Int) (s : State) :
    (testGuard x flag raw s).pending = s.pending ∧ (testGuard x flag raw s).links = s.links ∧
    (testGuard x flag raw s).force = s.force ∧ (testGuard x flag raw s).strain.specimen = s.strain.specimen ∧
    (testGuard x flag raw s).strain.stress = s.strain.stress ∧
    (testGuard x flag raw s).strain.stressSat = s.strain.stressSat ∧
    (testGuard x flag raw s).strain.setSource = s.strain.setSource ∧
    (testGuard x flag raw s).motion.encCount = s.motion.encCount ∧
    (testGuard x flag raw s).motion.softLower = s.motion.softLower ∧
    (testGuard x flag raw s).motion.softUpper = s.motion.softUpper ∧
    (testGuard x flag raw s).motion.sign = s.motion.sign ∧ (testGuard x flag raw s).motion.refX = s.motion.refX ∧
    (testGuard x flag raw s).motion.encA = s.motion.encA ∧ (testGuard x flag raw s).motion.encB = s.motion.encB ∧
    (testGuard x flag raw s).motion.encErrors = s.motion.encErrors ∧
    (testGuard x flag raw s).motion.periodDue = s.motion.periodDue ∧
    (testGuard x flag raw s).motion.dwell = s.motion.dwell ∧
    (testGuard x flag raw s).motion.zeroRun = s.motion.zeroRun ∧
    (testGuard x flag raw s).motion.blind = s.motion.blind ∧
    (testGuard x flag raw s).motion.lastWord = s.motion.lastWord ∧
    (testGuard x flag raw s).loop.gPos = s.loop.gPos ∧ (testGuard x flag raw s).loop.gStress = s.loop.gStress ∧
    (testGuard x flag raw s).loop.gStrain = s.loop.gStrain ∧
    (testGuard x flag raw s).prot.latched = s.prot.latched ∧
    (testGuard x flag raw s).prot.overload = s.prot.overload ∧
    (testGuard x flag raw s).prot.gripCount = s.prot.gripCount ∧
    (testGuard x flag raw s).seq.method = s.seq.method ∧ (testGuard x flag raw s).seq.phases = s.seq.phases ∧
    (testGuard x flag raw s).seq.armedTrigger = s.seq.armedTrigger ∧
    (testGuard x flag raw s).seq.fractured = s.seq.fractured ∧
    (testGuard x flag raw s).seq.abortCause = s.seq.abortCause ∧
    (testGuard x flag raw s).router.routes = s.router.routes ∧
    (testGuard x flag raw s).router.notices = s.router.notices ∧
    (testGuard x flag raw s).router.lost = s.router.lost ∧ (testGuard x flag raw s).ins = s.ins ∧
    (testGuard x flag raw s).outs = s.outs ∧ (testGuard x flag raw s).log.interval = s.log.interval ∧
    (testGuard x flag raw s).log.seqNo = s.log.seqNo ∧ (testGuard x flag raw s).log.stream = s.log.stream ∧
    (testGuard x flag raw s).log.firstSkipped = s.log.firstSkipped ∧
    (testGuard x flag raw s).time.testTime = s.time.testTime ∧ (testGuard x flag raw s).time.sec = s.time.sec ∧
    (testGuard x flag raw s).time.ns = s.time.ns ∧ (testGuard x flag raw s).time.frac = s.time.frac ∧
    (testGuard x flag raw s).time.step = s.time.step ∧ (testGuard x flag raw s).time.trim = s.time.trim ∧
    (testGuard x flag raw s).time.crystal = s.time.crystal ∧ (testGuard x flag raw s).time.msSeen = s.time.msSeen ∧
    (testGuard x flag raw s).host = s.host ∧ (testGuard x flag raw s).store = s.store ∧
    (testGuard x flag raw s).free = s.free := by
  simp only [testGuard]; (repeat' split) <;> simp

@[simp] theorem passOn_frame (x : ExtNo) (s : State) :
    (passOn x s).pending = s.pending ∧ (passOn x s).links = s.links ∧ (passOn x s).force = s.force ∧
    (passOn x s).strain.specimen = s.strain.specimen ∧ (passOn x s).strain.source = s.strain.source ∧
    (passOn x s).strain.p0 = s.strain.p0 ∧ (passOn x s).strain.stitch = s.strain.stitch ∧
    (passOn x s).strain.stress = s.strain.stress ∧ (passOn x s).strain.stressSat = s.strain.stressSat ∧
    (passOn x s).strain.setSource = s.strain.setSource ∧
    (passOn x s).strain.epsC = s.strain.epsC ∧ (passOn x s).ext = s.ext ∧ (passOn x s).motion = s.motion ∧
    (passOn x s).loop = s.loop ∧ (passOn x s).prot = s.prot ∧ (passOn x s).seq = s.seq ∧
    (passOn x s).router = s.router ∧ (passOn x s).ins = s.ins ∧ (passOn x s).outs = s.outs ∧
    (passOn x s).result = s.result ∧ (passOn x s).log = s.log ∧ (passOn x s).time = s.time ∧
    (passOn x s).host = s.host ∧ (passOn x s).store = s.store ∧ (passOn x s).free = s.free := by
  simp only [passOn]; (repeat' split) <;> simp

@[simp] theorem testSlip_frame (s : State) :
    (testSlip s).pending = s.pending ∧ (testSlip s).links = s.links ∧ (testSlip s).force = s.force ∧
    (testSlip s).strain = s.strain ∧ (testSlip s).ext.primary = s.ext.primary ∧
    (testSlip s).ext.secondary = s.ext.secondary ∧ (testSlip s).ext.removal = s.ext.removal ∧
    (testSlip s).ext.removeRequest = s.ext.removeRequest ∧ (testSlip s).motion = s.motion ∧
    (testSlip s).loop = s.loop ∧ (testSlip s).prot = s.prot ∧ (testSlip s).seq = s.seq ∧ (testSlip s).mon = s.mon ∧
    (testSlip s).router.routes = s.router.routes ∧ (testSlip s).router.notices = s.router.notices ∧
    (testSlip s).router.lost = s.router.lost ∧ (testSlip s).ins = s.ins ∧ (testSlip s).outs = s.outs ∧
    (testSlip s).result = s.result ∧ (testSlip s).log = s.log ∧ (testSlip s).time = s.time ∧
    (testSlip s).host = s.host ∧ (testSlip s).store = s.store ∧ (testSlip s).free = s.free := by
  simp only [testSlip]; (repeat' split) <;> simp

end Sys2Proof.Machine
end

