-- ==== Sys2Proof/Laws/Router.lean ====
section
/-! SUPPORT. What each operation leaves alone, one lemma for each: routing, the transmit arbiter and the end of an
arrival; a curve point's steps. A field that a lemma does not name is one that the operation can change. -/

namespace Sys2Proof.Machine

/-! ## Router -/

@[simp] theorem offerNotice_frame (e : EventRecord) (s : State) :
    (offerNotice e s).pending = s.pending ∧ (offerNotice e s).links = s.links ∧ (offerNotice e s).force = s.force ∧
    (offerNotice e s).strain = s.strain ∧ (offerNotice e s).ext = s.ext ∧ (offerNotice e s).motion = s.motion ∧
    (offerNotice e s).loop = s.loop ∧ (offerNotice e s).prot = s.prot ∧ (offerNotice e s).seq = s.seq ∧
    (offerNotice e s).mon = s.mon ∧ (offerNotice e s).router.routes = s.router.routes ∧
    (offerNotice e s).router.raised = s.router.raised ∧ (offerNotice e s).ins = s.ins ∧
    (offerNotice e s).outs = s.outs ∧ (offerNotice e s).result = s.result ∧ (offerNotice e s).log = s.log ∧
    (offerNotice e s).time = s.time ∧ (offerNotice e s).host = s.host ∧ (offerNotice e s).store = s.store ∧
    (offerNotice e s).free = s.free := by
  simp only [offerNotice]; (repeat' split) <;> simp

@[simp] theorem holdAction_frame (s : State) :
    (holdAction s).pending = s.pending ∧ (holdAction s).links = s.links ∧ (holdAction s).force = s.force ∧
    (holdAction s).strain = s.strain ∧ (holdAction s).ext.primary = s.ext.primary ∧
    (holdAction s).ext.secondary = s.ext.secondary ∧ (holdAction s).ext.removal = s.ext.removal ∧
    (holdAction s).ext.slipM = s.ext.slipM ∧ (holdAction s).ext.slipX = s.ext.slipX ∧
    (holdAction s).motion.encCount = s.motion.encCount ∧ (holdAction s).motion.softLower = s.motion.softLower ∧
    (holdAction s).motion.softUpper = s.motion.softUpper ∧ (holdAction s).motion.sign = s.motion.sign ∧
    (holdAction s).motion.refX = s.motion.refX ∧ (holdAction s).motion.encA = s.motion.encA ∧
    (holdAction s).motion.encB = s.motion.encB ∧ (holdAction s).motion.encErrors = s.motion.encErrors ∧
    (holdAction s).motion.periodDue = s.motion.periodDue ∧ (holdAction s).motion.dwell = s.motion.dwell ∧
    (holdAction s).motion.zeroRun = s.motion.zeroRun ∧ (holdAction s).motion.blind = s.motion.blind ∧
    (holdAction s).motion.lastWord = s.motion.lastWord ∧ (holdAction s).loop.gPos = s.loop.gPos ∧
    (holdAction s).loop.gStress = s.loop.gStress ∧ (holdAction s).loop.gStrain = s.loop.gStrain ∧
    (holdAction s).prot.latched = s.prot.latched ∧ (holdAction s).prot.overload = s.prot.overload ∧
    (holdAction s).prot.gripCount = s.prot.gripCount ∧ (holdAction s).seq.method = s.seq.method ∧
    (holdAction s).seq.phases = s.seq.phases ∧ (holdAction s).seq.phase = s.seq.phase ∧
    (holdAction s).seq.armedTrigger = s.seq.armedTrigger ∧ (holdAction s).seq.fractured = s.seq.fractured ∧
    (holdAction s).seq.endReason = s.seq.endReason ∧ (holdAction s).seq.abortCause = s.seq.abortCause ∧
    (holdAction s).seq.pendingExit = s.seq.pendingExit ∧ (holdAction s).seq.phaseStart = s.seq.phaseStart ∧
    (holdAction s).mon = s.mon ∧ (holdAction s).router.routes = s.router.routes ∧
    (holdAction s).router.notices = s.router.notices ∧ (holdAction s).router.lost = s.router.lost ∧
    (holdAction s).ins = s.ins ∧ (holdAction s).outs = s.outs ∧ (holdAction s).result.n = s.result.n ∧
    (holdAction s).result.fracArmed = s.result.fracArmed ∧ (holdAction s).log.interval = s.log.interval ∧
    (holdAction s).log.seqNo = s.log.seqNo ∧ (holdAction s).log.stream = s.log.stream ∧
    (holdAction s).log.firstSkipped = s.log.firstSkipped ∧ (holdAction s).time.testTime = s.time.testTime ∧
    (holdAction s).time.sec = s.time.sec ∧ (holdAction s).time.ns = s.time.ns ∧
    (holdAction s).time.frac = s.time.frac ∧ (holdAction s).time.step = s.time.step ∧
    (holdAction s).time.trim = s.time.trim ∧ (holdAction s).time.crystal = s.time.crystal ∧
    (holdAction s).time.msSeen = s.time.msSeen ∧ (holdAction s).host = s.host ∧ (holdAction s).store = s.store ∧
    (holdAction s).free = s.free := by
  simp only [holdAction]; (repeat' split) <;> simp

@[simp] theorem pulseLine_frame (s : State) (k : Fin 8) :
    (pulseLine s k).pending = s.pending ∧ (pulseLine s k).links = s.links ∧ (pulseLine s k).force = s.force ∧
    (pulseLine s k).strain = s.strain ∧ (pulseLine s k).ext = s.ext ∧ (pulseLine s k).motion = s.motion ∧
    (pulseLine s k).loop = s.loop ∧ (pulseLine s k).prot = s.prot ∧ (pulseLine s k).seq = s.seq ∧
    (pulseLine s k).mon = s.mon ∧ (pulseLine s k).router = s.router ∧ (pulseLine s k).ins = s.ins ∧
    (pulseLine s k).result = s.result ∧ (pulseLine s k).log = s.log ∧ (pulseLine s k).time = s.time ∧
    (pulseLine s k).host = s.host ∧ (pulseLine s k).store = s.store ∧ (pulseLine s k).free = s.free := by
  simp only [pulseLine]; (repeat' split) <;> simp

@[simp] theorem pulseLines_frame (mask : Byte) (s : State) :
    (pulseLines mask s).pending = s.pending ∧ (pulseLines mask s).links = s.links ∧
    (pulseLines mask s).force = s.force ∧ (pulseLines mask s).strain = s.strain ∧ (pulseLines mask s).ext = s.ext ∧
    (pulseLines mask s).motion = s.motion ∧ (pulseLines mask s).loop = s.loop ∧ (pulseLines mask s).prot = s.prot ∧
    (pulseLines mask s).seq = s.seq ∧ (pulseLines mask s).mon = s.mon ∧ (pulseLines mask s).router = s.router ∧
    (pulseLines mask s).ins = s.ins ∧ (pulseLines mask s).result = s.result ∧ (pulseLines mask s).log = s.log ∧
    (pulseLines mask s).time = s.time ∧ (pulseLines mask s).host = s.host ∧ (pulseLines mask s).store = s.store ∧
    (pulseLines mask s).free = s.free := by
  simp only [pulseLines]
  generalize indices = l
  induction l generalizing s with
  | nil => simp
  | cons a l ih => simp only [List.foldl_cons, ih]; split <;> simp

@[simp] theorem routeEvent_frame (e : EventRecord) (s : State) :
    (routeEvent e s).pending = s.pending ∧ (routeEvent e s).links = s.links ∧ (routeEvent e s).force = s.force ∧
    (routeEvent e s).strain = s.strain ∧ (routeEvent e s).ext.primary = s.ext.primary ∧
    (routeEvent e s).ext.secondary = s.ext.secondary ∧ (routeEvent e s).ext.removal = s.ext.removal ∧
    (routeEvent e s).ext.slipM = s.ext.slipM ∧ (routeEvent e s).ext.slipX = s.ext.slipX ∧
    (routeEvent e s).motion.encCount = s.motion.encCount ∧ (routeEvent e s).motion.softLower = s.motion.softLower ∧
    (routeEvent e s).motion.softUpper = s.motion.softUpper ∧ (routeEvent e s).motion.sign = s.motion.sign ∧
    (routeEvent e s).motion.refX = s.motion.refX ∧ (routeEvent e s).motion.encA = s.motion.encA ∧
    (routeEvent e s).motion.encB = s.motion.encB ∧ (routeEvent e s).motion.encErrors = s.motion.encErrors ∧
    (routeEvent e s).motion.periodDue = s.motion.periodDue ∧ (routeEvent e s).motion.dwell = s.motion.dwell ∧
    (routeEvent e s).motion.zeroRun = s.motion.zeroRun ∧ (routeEvent e s).motion.blind = s.motion.blind ∧
    (routeEvent e s).motion.lastWord = s.motion.lastWord ∧ (routeEvent e s).loop.gPos = s.loop.gPos ∧
    (routeEvent e s).loop.gStress = s.loop.gStress ∧ (routeEvent e s).loop.gStrain = s.loop.gStrain ∧
    (routeEvent e s).prot.latched = s.prot.latched ∧ (routeEvent e s).prot.overload = s.prot.overload ∧
    (routeEvent e s).prot.gripCount = s.prot.gripCount ∧ (routeEvent e s).seq.method = s.seq.method ∧
    (routeEvent e s).seq.phases = s.seq.phases ∧ (routeEvent e s).seq.phase = s.seq.phase ∧
    (routeEvent e s).seq.armedTrigger = s.seq.armedTrigger ∧ (routeEvent e s).seq.fractured = s.seq.fractured ∧
    (routeEvent e s).seq.endReason = s.seq.endReason ∧ (routeEvent e s).seq.abortCause = s.seq.abortCause ∧
    (routeEvent e s).seq.pendingExit = s.seq.pendingExit ∧ (routeEvent e s).seq.phaseStart = s.seq.phaseStart ∧
    (routeEvent e s).mon = s.mon ∧ (routeEvent e s).router.routes = s.router.routes ∧ (routeEvent e s).ins = s.ins ∧
    (routeEvent e s).result.n = s.result.n ∧ (routeEvent e s).result.fracArmed = s.result.fracArmed ∧
    (routeEvent e s).log.interval = s.log.interval ∧ (routeEvent e s).log.seqNo = s.log.seqNo ∧
    (routeEvent e s).log.stream = s.log.stream ∧ (routeEvent e s).log.firstSkipped = s.log.firstSkipped ∧
    (routeEvent e s).time.testTime = s.time.testTime ∧ (routeEvent e s).time.sec = s.time.sec ∧
    (routeEvent e s).time.ns = s.time.ns ∧ (routeEvent e s).time.frac = s.time.frac ∧
    (routeEvent e s).time.step = s.time.step ∧ (routeEvent e s).time.trim = s.time.trim ∧
    (routeEvent e s).time.crystal = s.time.crystal ∧ (routeEvent e s).time.msSeen = s.time.msSeen ∧
    (routeEvent e s).host = s.host ∧ (routeEvent e s).store = s.store ∧ (routeEvent e s).free = s.free := by
  simp only [routeEvent]; (repeat' split) <;> simp

@[simp] theorem drainFuel_frame (fuel : Nat) (s : State) :
    (drainFuel fuel s).pending = s.pending ∧ (drainFuel fuel s).links = s.links ∧
    (drainFuel fuel s).force = s.force ∧ (drainFuel fuel s).strain = s.strain ∧
    (drainFuel fuel s).ext.primary = s.ext.primary ∧ (drainFuel fuel s).ext.secondary = s.ext.secondary ∧
    (drainFuel fuel s).ext.removal = s.ext.removal ∧ (drainFuel fuel s).ext.slipM = s.ext.slipM ∧
    (drainFuel fuel s).ext.slipX = s.ext.slipX ∧ (drainFuel fuel s).motion.encCount = s.motion.encCount ∧
    (drainFuel fuel s).motion.softLower = s.motion.softLower ∧
    (drainFuel fuel s).motion.softUpper = s.motion.softUpper ∧ (drainFuel fuel s).motion.sign = s.motion.sign ∧
    (drainFuel fuel s).motion.refX = s.motion.refX ∧ (drainFuel fuel s).motion.encA = s.motion.encA ∧
    (drainFuel fuel s).motion.encB = s.motion.encB ∧ (drainFuel fuel s).motion.encErrors = s.motion.encErrors ∧
    (drainFuel fuel s).motion.periodDue = s.motion.periodDue ∧ (drainFuel fuel s).motion.dwell = s.motion.dwell ∧
    (drainFuel fuel s).motion.zeroRun = s.motion.zeroRun ∧ (drainFuel fuel s).motion.blind = s.motion.blind ∧
    (drainFuel fuel s).motion.lastWord = s.motion.lastWord ∧ (drainFuel fuel s).loop.gPos = s.loop.gPos ∧
    (drainFuel fuel s).loop.gStress = s.loop.gStress ∧ (drainFuel fuel s).loop.gStrain = s.loop.gStrain ∧
    (drainFuel fuel s).prot.latched = s.prot.latched ∧ (drainFuel fuel s).prot.overload = s.prot.overload ∧
    (drainFuel fuel s).prot.gripCount = s.prot.gripCount ∧ (drainFuel fuel s).seq.method = s.seq.method ∧
    (drainFuel fuel s).seq.phases = s.seq.phases ∧ (drainFuel fuel s).seq.phase = s.seq.phase ∧
    (drainFuel fuel s).seq.armedTrigger = s.seq.armedTrigger ∧ (drainFuel fuel s).seq.fractured = s.seq.fractured ∧
    (drainFuel fuel s).seq.endReason = s.seq.endReason ∧ (drainFuel fuel s).seq.abortCause = s.seq.abortCause ∧
    (drainFuel fuel s).seq.pendingExit = s.seq.pendingExit ∧ (drainFuel fuel s).seq.phaseStart = s.seq.phaseStart ∧
    (drainFuel fuel s).mon = s.mon ∧ (drainFuel fuel s).router.routes = s.router.routes ∧
    (drainFuel fuel s).ins = s.ins ∧ (drainFuel fuel s).result.n = s.result.n ∧
    (drainFuel fuel s).result.fracArmed = s.result.fracArmed ∧ (drainFuel fuel s).log.interval = s.log.interval ∧
    (drainFuel fuel s).log.seqNo = s.log.seqNo ∧ (drainFuel fuel s).log.stream = s.log.stream ∧
    (drainFuel fuel s).log.firstSkipped = s.log.firstSkipped ∧ (drainFuel fuel s).time.testTime = s.time.testTime ∧
    (drainFuel fuel s).time.sec = s.time.sec ∧ (drainFuel fuel s).time.ns = s.time.ns ∧
    (drainFuel fuel s).time.frac = s.time.frac ∧ (drainFuel fuel s).time.step = s.time.step ∧
    (drainFuel fuel s).time.trim = s.time.trim ∧ (drainFuel fuel s).time.crystal = s.time.crystal ∧
    (drainFuel fuel s).time.msSeen = s.time.msSeen ∧ (drainFuel fuel s).host = s.host ∧
    (drainFuel fuel s).store = s.store ∧ (drainFuel fuel s).free = s.free := by
  induction fuel generalizing s with
  | zero => simp [drainFuel]
  | succ n ih => simp only [drainFuel]; (repeat' split) <;> simp [ih]

@[simp] theorem drainEvents_frame (s : State) :
    (drainEvents s).pending = s.pending ∧ (drainEvents s).links = s.links ∧ (drainEvents s).force = s.force ∧
    (drainEvents s).strain = s.strain ∧ (drainEvents s).ext.primary = s.ext.primary ∧
    (drainEvents s).ext.secondary = s.ext.secondary ∧ (drainEvents s).ext.removal = s.ext.removal ∧
    (drainEvents s).ext.slipM = s.ext.slipM ∧ (drainEvents s).ext.slipX = s.ext.slipX ∧
    (drainEvents s).motion.encCount = s.motion.encCount ∧ (drainEvents s).motion.softLower = s.motion.softLower ∧
    (drainEvents s).motion.softUpper = s.motion.softUpper ∧ (drainEvents s).motion.sign = s.motion.sign ∧
    (drainEvents s).motion.refX = s.motion.refX ∧ (drainEvents s).motion.encA = s.motion.encA ∧
    (drainEvents s).motion.encB = s.motion.encB ∧ (drainEvents s).motion.encErrors = s.motion.encErrors ∧
    (drainEvents s).motion.periodDue = s.motion.periodDue ∧ (drainEvents s).motion.dwell = s.motion.dwell ∧
    (drainEvents s).motion.zeroRun = s.motion.zeroRun ∧ (drainEvents s).motion.blind = s.motion.blind ∧
    (drainEvents s).motion.lastWord = s.motion.lastWord ∧ (drainEvents s).loop.gPos = s.loop.gPos ∧
    (drainEvents s).loop.gStress = s.loop.gStress ∧ (drainEvents s).loop.gStrain = s.loop.gStrain ∧
    (drainEvents s).prot.latched = s.prot.latched ∧ (drainEvents s).prot.overload = s.prot.overload ∧
    (drainEvents s).prot.gripCount = s.prot.gripCount ∧ (drainEvents s).seq.method = s.seq.method ∧
    (drainEvents s).seq.phases = s.seq.phases ∧ (drainEvents s).seq.phase = s.seq.phase ∧
    (drainEvents s).seq.armedTrigger = s.seq.armedTrigger ∧ (drainEvents s).seq.fractured = s.seq.fractured ∧
    (drainEvents s).seq.endReason = s.seq.endReason ∧ (drainEvents s).seq.abortCause = s.seq.abortCause ∧
    (drainEvents s).seq.pendingExit = s.seq.pendingExit ∧ (drainEvents s).seq.phaseStart = s.seq.phaseStart ∧
    (drainEvents s).mon = s.mon ∧ (drainEvents s).router.routes = s.router.routes ∧ (drainEvents s).ins = s.ins ∧
    (drainEvents s).result.n = s.result.n ∧ (drainEvents s).result.fracArmed = s.result.fracArmed ∧
    (drainEvents s).log.interval = s.log.interval ∧ (drainEvents s).log.seqNo = s.log.seqNo ∧
    (drainEvents s).log.stream = s.log.stream ∧ (drainEvents s).log.firstSkipped = s.log.firstSkipped ∧
    (drainEvents s).time.testTime = s.time.testTime ∧ (drainEvents s).time.sec = s.time.sec ∧
    (drainEvents s).time.ns = s.time.ns ∧ (drainEvents s).time.frac = s.time.frac ∧
    (drainEvents s).time.step = s.time.step ∧ (drainEvents s).time.trim = s.time.trim ∧
    (drainEvents s).time.crystal = s.time.crystal ∧ (drainEvents s).time.msSeen = s.time.msSeen ∧
    (drainEvents s).host = s.host ∧ (drainEvents s).store = s.store ∧ (drainEvents s).free = s.free := by
  simp [drainEvents]

@[simp] theorem dropRing_frame (n : Nat) (s : State) :
    (dropRing n s).pending = s.pending ∧ (dropRing n s).links = s.links ∧ (dropRing n s).force = s.force ∧
    (dropRing n s).strain = s.strain ∧ (dropRing n s).ext = s.ext ∧ (dropRing n s).motion = s.motion ∧
    (dropRing n s).loop = s.loop ∧ (dropRing n s).prot = s.prot ∧ (dropRing n s).seq = s.seq ∧
    (dropRing n s).mon = s.mon ∧ (dropRing n s).router.routes = s.router.routes ∧
    (dropRing n s).router.notices = s.router.notices ∧ (dropRing n s).router.lost = s.router.lost ∧
    (dropRing n s).ins = s.ins ∧ (dropRing n s).outs = s.outs ∧ (dropRing n s).result = s.result ∧
    (dropRing n s).log.state = s.log.state ∧ (dropRing n s).log.interval = s.log.interval ∧
    (dropRing n s).log.due = s.log.due ∧ (dropRing n s).log.seqNo = s.log.seqNo ∧
    (dropRing n s).log.stream = s.log.stream ∧ (dropRing n s).log.firstSkipped = s.log.firstSkipped ∧
    (dropRing n s).time = s.time ∧ (dropRing n s).host = s.host ∧ (dropRing n s).store = s.store ∧
    (dropRing n s).free = s.free := by
  simp only [dropRing]; (repeat' split) <;> simp

@[simp] theorem transmit_frame (s : State) :
    (transmit s).pending = s.pending ∧ (transmit s).links = s.links ∧ (transmit s).force = s.force ∧
    (transmit s).strain = s.strain ∧ (transmit s).ext = s.ext ∧ (transmit s).motion = s.motion ∧
    (transmit s).loop = s.loop ∧ (transmit s).prot = s.prot ∧ (transmit s).seq = s.seq ∧ (transmit s).mon = s.mon ∧
    (transmit s).router.routes = s.router.routes ∧ (transmit s).router.lost = s.router.lost ∧
    (transmit s).ins = s.ins ∧ (transmit s).outs = s.outs ∧ (transmit s).result = s.result ∧
    (transmit s).log.state = s.log.state ∧ (transmit s).log.interval = s.log.interval ∧
    (transmit s).log.due = s.log.due ∧ (transmit s).log.seqNo = s.log.seqNo ∧
    (transmit s).log.stream = s.log.stream ∧ (transmit s).log.firstSkipped = s.log.firstSkipped ∧
    (transmit s).time = s.time ∧ (transmit s).host.rx = s.host.rx ∧ (transmit s).host.replies = s.host.replies ∧
    (transmit s).host.goodFrames = s.host.goodFrames ∧ (transmit s).host.crcErrors = s.host.crcErrors ∧
    (transmit s).host.framingErrors = s.host.framingErrors ∧ (transmit s).host.overruns = s.host.overruns ∧
    (transmit s).host.framesSent = s.host.framesSent ∧ (transmit s).host.resetPending = s.host.resetPending ∧
    (transmit s).store = s.store ∧ (transmit s).free = s.free := by
  simp only [transmit]; (repeat' split) <;> simp

@[simp] theorem settle_frame (s : State) :
    (settle s).pending = s.pending ∧ (settle s).links = s.links ∧ (settle s).force = s.force ∧
    (settle s).strain = s.strain ∧ (settle s).ext.primary = s.ext.primary ∧
    (settle s).ext.secondary = s.ext.secondary ∧ (settle s).ext.removal = s.ext.removal ∧
    (settle s).ext.slipM = s.ext.slipM ∧ (settle s).ext.slipX = s.ext.slipX ∧
    (settle s).motion.encCount = s.motion.encCount ∧ (settle s).motion.softLower = s.motion.softLower ∧
    (settle s).motion.softUpper = s.motion.softUpper ∧ (settle s).motion.sign = s.motion.sign ∧
    (settle s).motion.refX = s.motion.refX ∧ (settle s).motion.encA = s.motion.encA ∧
    (settle s).motion.encB = s.motion.encB ∧ (settle s).motion.encErrors = s.motion.encErrors ∧
    (settle s).motion.periodDue = s.motion.periodDue ∧ (settle s).motion.dwell = s.motion.dwell ∧
    (settle s).motion.zeroRun = s.motion.zeroRun ∧ (settle s).motion.blind = s.motion.blind ∧
    (settle s).motion.lastWord = s.motion.lastWord ∧ (settle s).loop.gPos = s.loop.gPos ∧
    (settle s).loop.gStress = s.loop.gStress ∧ (settle s).loop.gStrain = s.loop.gStrain ∧
    (settle s).prot.latched = s.prot.latched ∧ (settle s).prot.overload = s.prot.overload ∧
    (settle s).prot.gripCount = s.prot.gripCount ∧ (settle s).seq.method = s.seq.method ∧
    (settle s).seq.phases = s.seq.phases ∧ (settle s).seq.phase = s.seq.phase ∧
    (settle s).seq.armedTrigger = s.seq.armedTrigger ∧ (settle s).seq.fractured = s.seq.fractured ∧
    (settle s).seq.endReason = s.seq.endReason ∧ (settle s).seq.abortCause = s.seq.abortCause ∧
    (settle s).seq.pendingExit = s.seq.pendingExit ∧ (settle s).seq.phaseStart = s.seq.phaseStart ∧
    (settle s).mon = s.mon ∧ (settle s).router.routes = s.router.routes ∧ (settle s).ins = s.ins ∧
    (settle s).result.n = s.result.n ∧ (settle s).result.fracArmed = s.result.fracArmed ∧
    (settle s).log.interval = s.log.interval ∧ (settle s).log.seqNo = s.log.seqNo ∧
    (settle s).log.stream = s.log.stream ∧ (settle s).log.firstSkipped = s.log.firstSkipped ∧
    (settle s).time.testTime = s.time.testTime ∧ (settle s).time.sec = s.time.sec ∧ (settle s).time.ns = s.time.ns ∧
    (settle s).time.frac = s.time.frac ∧ (settle s).time.step = s.time.step ∧ (settle s).time.trim = s.time.trim ∧
    (settle s).time.crystal = s.time.crystal ∧ (settle s).time.msSeen = s.time.msSeen ∧
    (settle s).host.rx = s.host.rx ∧ (settle s).host.replies = s.host.replies ∧
    (settle s).host.goodFrames = s.host.goodFrames ∧ (settle s).host.crcErrors = s.host.crcErrors ∧
    (settle s).host.framingErrors = s.host.framingErrors ∧ (settle s).host.overruns = s.host.overruns ∧
    (settle s).host.framesSent = s.host.framesSent ∧ (settle s).host.resetPending = s.host.resetPending ∧
    (settle s).store = s.store ∧ (settle s).free = s.free := by
  simp [settle]

/-! ## Curve -/

@[simp] theorem tellProof_frame (s : State) :
    (tellProof s).pending = s.pending ∧ (tellProof s).links = s.links ∧ (tellProof s).force = s.force ∧
    (tellProof s).strain.specimen = s.strain.specimen ∧ (tellProof s).strain.stress = s.strain.stress ∧
    (tellProof s).strain.stressSat = s.strain.stressSat ∧
    (tellProof s).strain.setSource = s.strain.setSource ∧ (tellProof s).motion.encCount = s.motion.encCount ∧
    (tellProof s).motion.softLower = s.motion.softLower ∧ (tellProof s).motion.softUpper = s.motion.softUpper ∧
    (tellProof s).motion.sign = s.motion.sign ∧ (tellProof s).motion.refX = s.motion.refX ∧
    (tellProof s).motion.encA = s.motion.encA ∧ (tellProof s).motion.encB = s.motion.encB ∧
    (tellProof s).motion.encErrors = s.motion.encErrors ∧ (tellProof s).motion.periodDue = s.motion.periodDue ∧
    (tellProof s).motion.dwell = s.motion.dwell ∧ (tellProof s).motion.zeroRun = s.motion.zeroRun ∧
    (tellProof s).motion.blind = s.motion.blind ∧ (tellProof s).motion.lastWord = s.motion.lastWord ∧
    (tellProof s).loop.gPos = s.loop.gPos ∧ (tellProof s).loop.gStress = s.loop.gStress ∧
    (tellProof s).loop.gStrain = s.loop.gStrain ∧ (tellProof s).prot.latched = s.prot.latched ∧
    (tellProof s).prot.overload = s.prot.overload ∧ (tellProof s).prot.gripCount = s.prot.gripCount ∧
    (tellProof s).seq.method = s.seq.method ∧ (tellProof s).seq.phases = s.seq.phases ∧
    (tellProof s).seq.armedTrigger = s.seq.armedTrigger ∧ (tellProof s).seq.fractured = s.seq.fractured ∧
    (tellProof s).seq.abortCause = s.seq.abortCause ∧ (tellProof s).router.routes = s.router.routes ∧
    (tellProof s).router.notices = s.router.notices ∧ (tellProof s).router.lost = s.router.lost ∧
    (tellProof s).ins = s.ins ∧ (tellProof s).outs = s.outs ∧ (tellProof s).log.interval = s.log.interval ∧
    (tellProof s).log.seqNo = s.log.seqNo ∧ (tellProof s).log.stream = s.log.stream ∧
    (tellProof s).log.firstSkipped = s.log.firstSkipped ∧ (tellProof s).time.testTime = s.time.testTime ∧
    (tellProof s).time.sec = s.time.sec ∧ (tellProof s).time.ns = s.time.ns ∧
    (tellProof s).time.frac = s.time.frac ∧ (tellProof s).time.step = s.time.step ∧
    (tellProof s).time.trim = s.time.trim ∧ (tellProof s).time.crystal = s.time.crystal ∧
    (tellProof s).time.msSeen = s.time.msSeen ∧ (tellProof s).host = s.host ∧ (tellProof s).store = s.store ∧
    (tellProof s).free = s.free := by
  simp [tellProof]

@[simp] theorem accumulate_frame (p : CurvePoint) (s : State) :
    (accumulate p s).pending = s.pending ∧ (accumulate p s).links = s.links ∧ (accumulate p s).force = s.force ∧
    (accumulate p s).strain = s.strain ∧ (accumulate p s).ext = s.ext ∧ (accumulate p s).motion = s.motion ∧
    (accumulate p s).loop = s.loop ∧ (accumulate p s).prot = s.prot ∧ (accumulate p s).seq = s.seq ∧
    (accumulate p s).mon = s.mon ∧ (accumulate p s).router = s.router ∧ (accumulate p s).ins = s.ins ∧
    (accumulate p s).outs = s.outs ∧ (accumulate p s).result.fracArmed = s.result.fracArmed ∧
    (accumulate p s).log = s.log ∧ (accumulate p s).time = s.time ∧ (accumulate p s).host = s.host ∧
    (accumulate p s).store = s.store ∧ (accumulate p s).free = s.free := by
  simp only [accumulate]; (repeat' split) <;> simp

@[simp] theorem failFit_frame (code : Nat) (value : Int) (s : State) :
    (failFit code value s).pending = s.pending ∧ (failFit code value s).links = s.links ∧
    (failFit code value s).force = s.force ∧ (failFit code value s).strain.specimen = s.strain.specimen ∧
    (failFit code value s).strain.stress = s.strain.stress ∧
    (failFit code value s).strain.stressSat = s.strain.stressSat ∧
    (failFit code value s).strain.setSource = s.strain.setSource ∧
    (failFit code value s).motion.encCount = s.motion.encCount ∧
    (failFit code value s).motion.softLower = s.motion.softLower ∧
    (failFit code value s).motion.softUpper = s.motion.softUpper ∧
    (failFit code value s).motion.sign = s.motion.sign ∧ (failFit code value s).motion.refX = s.motion.refX ∧
    (failFit code value s).motion.encA = s.motion.encA ∧ (failFit code value s).motion.encB = s.motion.encB ∧
    (failFit code value s).motion.encErrors = s.motion.encErrors ∧
    (failFit code value s).motion.periodDue = s.motion.periodDue ∧
    (failFit code value s).motion.dwell = s.motion.dwell ∧
    (failFit code value s).motion.zeroRun = s.motion.zeroRun ∧
    (failFit code value s).motion.blind = s.motion.blind ∧
    (failFit code value s).motion.lastWord = s.motion.lastWord ∧ (failFit code value s).loop.gPos = s.loop.gPos ∧
    (failFit code value s).loop.gStress = s.loop.gStress ∧ (failFit code value s).loop.gStrain = s.loop.gStrain ∧
    (failFit code value s).prot.latched = s.prot.latched ∧ (failFit code value s).prot.overload = s.prot.overload ∧
    (failFit code value s).prot.gripCount = s.prot.gripCount ∧ (failFit code value s).seq.method = s.seq.method ∧
    (failFit code value s).seq.phases = s.seq.phases ∧
    (failFit code value s).seq.armedTrigger = s.seq.armedTrigger ∧
    (failFit code value s).seq.fractured = s.seq.fractured ∧
    (failFit code value s).seq.abortCause = s.seq.abortCause ∧
    (failFit code value s).router.routes = s.router.routes ∧
    (failFit code value s).router.notices = s.router.notices ∧ (failFit code value s).router.lost = s.router.lost ∧
    (failFit code value s).ins = s.ins ∧ (failFit code value s).outs = s.outs ∧
    (failFit code value s).log.interval = s.log.interval ∧ (failFit code value s).log.seqNo = s.log.seqNo ∧
    (failFit code value s).log.stream = s.log.stream ∧
    (failFit code value s).log.firstSkipped = s.log.firstSkipped ∧
    (failFit code value s).time.testTime = s.time.testTime ∧ (failFit code value s).time.sec = s.time.sec ∧
    (failFit code value s).time.ns = s.time.ns ∧ (failFit code value s).time.frac = s.time.frac ∧
    (failFit code value s).time.step = s.time.step ∧ (failFit code value s).time.trim = s.time.trim ∧
    (failFit code value s).time.crystal = s.time.crystal ∧ (failFit code value s).time.msSeen = s.time.msSeen ∧
    (failFit code value s).host = s.host ∧ (failFit code value s).store = s.store ∧
    (failFit code value s).free = s.free := by
  simp [failFit]

@[simp] theorem closeFit_frame (s : State) :
    (closeFit s).pending = s.pending ∧ (closeFit s).links = s.links ∧ (closeFit s).force = s.force ∧
    (closeFit s).strain.specimen = s.strain.specimen ∧ (closeFit s).strain.stress = s.strain.stress ∧
    (closeFit s).strain.stressSat = s.strain.stressSat ∧
    (closeFit s).strain.setSource = s.strain.setSource ∧ (closeFit s).motion.encCount = s.motion.encCount ∧
    (closeFit s).motion.softLower = s.motion.softLower ∧ (closeFit s).motion.softUpper = s.motion.softUpper ∧
    (closeFit s).motion.sign = s.motion.sign ∧ (closeFit s).motion.refX = s.motion.refX ∧
    (closeFit s).motion.encA = s.motion.encA ∧ (closeFit s).motion.encB = s.motion.encB ∧
    (closeFit s).motion.encErrors = s.motion.encErrors ∧ (closeFit s).motion.periodDue = s.motion.periodDue ∧
    (closeFit s).motion.dwell = s.motion.dwell ∧ (closeFit s).motion.zeroRun = s.motion.zeroRun ∧
    (closeFit s).motion.blind = s.motion.blind ∧ (closeFit s).motion.lastWord = s.motion.lastWord ∧
    (closeFit s).loop.gPos = s.loop.gPos ∧ (closeFit s).loop.gStress = s.loop.gStress ∧
    (closeFit s).loop.gStrain = s.loop.gStrain ∧ (closeFit s).prot.latched = s.prot.latched ∧
    (closeFit s).prot.overload = s.prot.overload ∧ (closeFit s).prot.gripCount = s.prot.gripCount ∧
    (closeFit s).seq.method = s.seq.method ∧ (closeFit s).seq.phases = s.seq.phases ∧
    (closeFit s).seq.armedTrigger = s.seq.armedTrigger ∧ (closeFit s).seq.fractured = s.seq.fractured ∧
    (closeFit s).seq.abortCause = s.seq.abortCause ∧ (closeFit s).router.routes = s.router.routes ∧
    (closeFit s).router.notices = s.router.notices ∧ (closeFit s).router.lost = s.router.lost ∧
    (closeFit s).ins = s.ins ∧ (closeFit s).outs = s.outs ∧ (closeFit s).log.interval = s.log.interval ∧
    (closeFit s).log.seqNo = s.log.seqNo ∧ (closeFit s).log.stream = s.log.stream ∧
    (closeFit s).log.firstSkipped = s.log.firstSkipped ∧ (closeFit s).time.testTime = s.time.testTime ∧
    (closeFit s).time.sec = s.time.sec ∧ (closeFit s).time.ns = s.time.ns ∧ (closeFit s).time.frac = s.time.frac ∧
    (closeFit s).time.step = s.time.step ∧ (closeFit s).time.trim = s.time.trim ∧
    (closeFit s).time.crystal = s.time.crystal ∧ (closeFit s).time.msSeen = s.time.msSeen ∧
    (closeFit s).host = s.host ∧ (closeFit s).store = s.store ∧ (closeFit s).free = s.free := by
  simp only [closeFit]; (repeat' split) <;> simp

@[simp] theorem fitStep_frame (p : CurvePoint) (s : State) :
    (fitStep p s).pending = s.pending ∧ (fitStep p s).links = s.links ∧ (fitStep p s).force = s.force ∧
    (fitStep p s).strain.specimen = s.strain.specimen ∧ (fitStep p s).strain.stress = s.strain.stress ∧
    (fitStep p s).strain.stressSat = s.strain.stressSat ∧
    (fitStep p s).strain.setSource = s.strain.setSource ∧ (fitStep p s).motion.encCount = s.motion.encCount ∧
    (fitStep p s).motion.softLower = s.motion.softLower ∧ (fitStep p s).motion.softUpper = s.motion.softUpper ∧
    (fitStep p s).motion.sign = s.motion.sign ∧ (fitStep p s).motion.refX = s.motion.refX ∧
    (fitStep p s).motion.encA = s.motion.encA ∧ (fitStep p s).motion.encB = s.motion.encB ∧
    (fitStep p s).motion.encErrors = s.motion.encErrors ∧ (fitStep p s).motion.periodDue = s.motion.periodDue ∧
    (fitStep p s).motion.dwell = s.motion.dwell ∧ (fitStep p s).motion.zeroRun = s.motion.zeroRun ∧
    (fitStep p s).motion.blind = s.motion.blind ∧ (fitStep p s).motion.lastWord = s.motion.lastWord ∧
    (fitStep p s).loop.gPos = s.loop.gPos ∧ (fitStep p s).loop.gStress = s.loop.gStress ∧
    (fitStep p s).loop.gStrain = s.loop.gStrain ∧ (fitStep p s).prot.latched = s.prot.latched ∧
    (fitStep p s).prot.overload = s.prot.overload ∧ (fitStep p s).prot.gripCount = s.prot.gripCount ∧
    (fitStep p s).seq.method = s.seq.method ∧ (fitStep p s).seq.phases = s.seq.phases ∧
    (fitStep p s).seq.armedTrigger = s.seq.armedTrigger ∧ (fitStep p s).seq.fractured = s.seq.fractured ∧
    (fitStep p s).seq.abortCause = s.seq.abortCause ∧ (fitStep p s).router.routes = s.router.routes ∧
    (fitStep p s).router.notices = s.router.notices ∧ (fitStep p s).router.lost = s.router.lost ∧
    (fitStep p s).ins = s.ins ∧ (fitStep p s).outs = s.outs ∧ (fitStep p s).log.interval = s.log.interval ∧
    (fitStep p s).log.seqNo = s.log.seqNo ∧ (fitStep p s).log.stream = s.log.stream ∧
    (fitStep p s).log.firstSkipped = s.log.firstSkipped ∧ (fitStep p s).time.testTime = s.time.testTime ∧
    (fitStep p s).time.sec = s.time.sec ∧ (fitStep p s).time.ns = s.time.ns ∧
    (fitStep p s).time.frac = s.time.frac ∧ (fitStep p s).time.step = s.time.step ∧
    (fitStep p s).time.trim = s.time.trim ∧ (fitStep p s).time.crystal = s.time.crystal ∧
    (fitStep p s).time.msSeen = s.time.msSeen ∧ (fitStep p s).host = s.host ∧ (fitStep p s).store = s.store ∧
    (fitStep p s).free = s.free := by
  simp only [fitStep]; (repeat' split) <;> simp

@[simp] theorem proofStep_frame (p : CurvePoint) (s : State) :
    (proofStep p s).pending = s.pending ∧ (proofStep p s).links = s.links ∧ (proofStep p s).force = s.force ∧
    (proofStep p s).strain.specimen = s.strain.specimen ∧ (proofStep p s).strain.stress = s.strain.stress ∧
    (proofStep p s).strain.stressSat = s.strain.stressSat ∧
    (proofStep p s).strain.setSource = s.strain.setSource ∧ (proofStep p s).motion.encCount = s.motion.encCount ∧
    (proofStep p s).motion.softLower = s.motion.softLower ∧ (proofStep p s).motion.softUpper = s.motion.softUpper ∧
    (proofStep p s).motion.sign = s.motion.sign ∧ (proofStep p s).motion.refX = s.motion.refX ∧
    (proofStep p s).motion.encA = s.motion.encA ∧ (proofStep p s).motion.encB = s.motion.encB ∧
    (proofStep p s).motion.encErrors = s.motion.encErrors ∧ (proofStep p s).motion.periodDue = s.motion.periodDue ∧
    (proofStep p s).motion.dwell = s.motion.dwell ∧ (proofStep p s).motion.zeroRun = s.motion.zeroRun ∧
    (proofStep p s).motion.blind = s.motion.blind ∧ (proofStep p s).motion.lastWord = s.motion.lastWord ∧
    (proofStep p s).loop.gPos = s.loop.gPos ∧ (proofStep p s).loop.gStress = s.loop.gStress ∧
    (proofStep p s).loop.gStrain = s.loop.gStrain ∧ (proofStep p s).prot.latched = s.prot.latched ∧
    (proofStep p s).prot.overload = s.prot.overload ∧ (proofStep p s).prot.gripCount = s.prot.gripCount ∧
    (proofStep p s).seq.method = s.seq.method ∧ (proofStep p s).seq.phases = s.seq.phases ∧
    (proofStep p s).seq.armedTrigger = s.seq.armedTrigger ∧ (proofStep p s).seq.fractured = s.seq.fractured ∧
    (proofStep p s).seq.abortCause = s.seq.abortCause ∧ (proofStep p s).router.routes = s.router.routes ∧
    (proofStep p s).router.notices = s.router.notices ∧ (proofStep p s).router.lost = s.router.lost ∧
    (proofStep p s).ins = s.ins ∧ (proofStep p s).outs = s.outs ∧ (proofStep p s).log.interval = s.log.interval ∧
    (proofStep p s).log.seqNo = s.log.seqNo ∧ (proofStep p s).log.stream = s.log.stream ∧
    (proofStep p s).log.firstSkipped = s.log.firstSkipped ∧ (proofStep p s).time.testTime = s.time.testTime ∧
    (proofStep p s).time.sec = s.time.sec ∧ (proofStep p s).time.ns = s.time.ns ∧
    (proofStep p s).time.frac = s.time.frac ∧ (proofStep p s).time.step = s.time.step ∧
    (proofStep p s).time.trim = s.time.trim ∧ (proofStep p s).time.crystal = s.time.crystal ∧
    (proofStep p s).time.msSeen = s.time.msSeen ∧ (proofStep p s).host = s.host ∧ (proofStep p s).store = s.store ∧
    (proofStep p s).free = s.free := by
  simp only [proofStep]; (repeat' split) <;> simp

@[simp] theorem enterMinima_frame (p : CurvePoint) (s : State) :
    (enterMinima p s).pending = s.pending ∧ (enterMinima p s).links = s.links ∧ (enterMinima p s).force = s.force ∧
    (enterMinima p s).strain = s.strain ∧ (enterMinima p s).ext = s.ext ∧ (enterMinima p s).motion = s.motion ∧
    (enterMinima p s).loop = s.loop ∧ (enterMinima p s).prot = s.prot ∧ (enterMinima p s).seq = s.seq ∧
    (enterMinima p s).mon = s.mon ∧ (enterMinima p s).router = s.router ∧ (enterMinima p s).ins = s.ins ∧
    (enterMinima p s).outs = s.outs ∧ (enterMinima p s).result.record = s.result.record ∧
    (enterMinima p s).result.n = s.result.n ∧ (enterMinima p s).result.fracArmed = s.result.fracArmed ∧
    (enterMinima p s).log = s.log ∧ (enterMinima p s).time = s.time ∧ (enterMinima p s).host = s.host ∧
    (enterMinima p s).store = s.store ∧ (enterMinima p s).free = s.free := by
  simp [enterMinima]

@[simp] theorem yieldPoint_frame (m : StressStrain) (p : CurvePoint) (s : State) :
    (yieldPoint m p s).pending = s.pending ∧ (yieldPoint m p s).links = s.links ∧
    (yieldPoint m p s).force = s.force ∧ (yieldPoint m p s).strain = s.strain ∧ (yieldPoint m p s).ext = s.ext ∧
    (yieldPoint m p s).motion = s.motion ∧ (yieldPoint m p s).loop = s.loop ∧ (yieldPoint m p s).prot = s.prot ∧
    (yieldPoint m p s).seq = s.seq ∧ (yieldPoint m p s).mon = s.mon ∧
    (yieldPoint m p s).router.routes = s.router.routes ∧ (yieldPoint m p s).router.notices = s.router.notices ∧
    (yieldPoint m p s).router.lost = s.router.lost ∧ (yieldPoint m p s).ins = s.ins ∧
    (yieldPoint m p s).outs = s.outs ∧ (yieldPoint m p s).result.n = s.result.n ∧
    (yieldPoint m p s).result.fracArmed = s.result.fracArmed ∧ (yieldPoint m p s).log = s.log ∧
    (yieldPoint m p s).time = s.time ∧ (yieldPoint m p s).host = s.host ∧ (yieldPoint m p s).store = s.store ∧
    (yieldPoint m p s).free = s.free := by
  simp [yieldPoint]

@[simp] theorem plateauStep_frame (p : CurvePoint) (s : State) :
    (plateauStep p s).pending = s.pending ∧ (plateauStep p s).links = s.links ∧ (plateauStep p s).force = s.force ∧
    (plateauStep p s).strain.specimen = s.strain.specimen ∧ (plateauStep p s).strain.stress = s.strain.stress ∧
    (plateauStep p s).strain.stressSat = s.strain.stressSat ∧
    (plateauStep p s).strain.setSource = s.strain.setSource ∧
    (plateauStep p s).motion.encCount = s.motion.encCount ∧
    (plateauStep p s).motion.softLower = s.motion.softLower ∧
    (plateauStep p s).motion.softUpper = s.motion.softUpper ∧ (plateauStep p s).motion.sign = s.motion.sign ∧
    (plateauStep p s).motion.refX = s.motion.refX ∧ (plateauStep p s).motion.encA = s.motion.encA ∧
    (plateauStep p s).motion.encB = s.motion.encB ∧ (plateauStep p s).motion.encErrors = s.motion.encErrors ∧
    (plateauStep p s).motion.periodDue = s.motion.periodDue ∧ (plateauStep p s).motion.dwell = s.motion.dwell ∧
    (plateauStep p s).motion.zeroRun = s.motion.zeroRun ∧ (plateauStep p s).motion.blind = s.motion.blind ∧
    (plateauStep p s).motion.lastWord = s.motion.lastWord ∧ (plateauStep p s).loop.gPos = s.loop.gPos ∧
    (plateauStep p s).loop.gStress = s.loop.gStress ∧ (plateauStep p s).loop.gStrain = s.loop.gStrain ∧
    (plateauStep p s).prot.latched = s.prot.latched ∧ (plateauStep p s).prot.overload = s.prot.overload ∧
    (plateauStep p s).prot.gripCount = s.prot.gripCount ∧ (plateauStep p s).seq.method = s.seq.method ∧
    (plateauStep p s).seq.phases = s.seq.phases ∧ (plateauStep p s).seq.armedTrigger = s.seq.armedTrigger ∧
    (plateauStep p s).seq.fractured = s.seq.fractured ∧ (plateauStep p s).seq.abortCause = s.seq.abortCause ∧
    (plateauStep p s).router.routes = s.router.routes ∧ (plateauStep p s).router.notices = s.router.notices ∧
    (plateauStep p s).router.lost = s.router.lost ∧ (plateauStep p s).ins = s.ins ∧
    (plateauStep p s).outs = s.outs ∧ (plateauStep p s).log.interval = s.log.interval ∧
    (plateauStep p s).log.seqNo = s.log.seqNo ∧ (plateauStep p s).log.stream = s.log.stream ∧
    (plateauStep p s).log.firstSkipped = s.log.firstSkipped ∧ (plateauStep p s).time.testTime = s.time.testTime ∧
    (plateauStep p s).time.sec = s.time.sec ∧ (plateauStep p s).time.ns = s.time.ns ∧
    (plateauStep p s).time.frac = s.time.frac ∧ (plateauStep p s).time.step = s.time.step ∧
    (plateauStep p s).time.trim = s.time.trim ∧ (plateauStep p s).time.crystal = s.time.crystal ∧
    (plateauStep p s).time.msSeen = s.time.msSeen ∧ (plateauStep p s).host = s.host ∧
    (plateauStep p s).store = s.store ∧ (plateauStep p s).free = s.free := by
  simp only [plateauStep]; (repeat' split) <;> simp

@[simp] theorem yieldStep_frame (p : CurvePoint) (s : State) :
    (yieldStep p s).pending = s.pending ∧ (yieldStep p s).links = s.links ∧ (yieldStep p s).force = s.force ∧
    (yieldStep p s).strain.specimen = s.strain.specimen ∧ (yieldStep p s).strain.stress = s.strain.stress ∧
    (yieldStep p s).strain.stressSat = s.strain.stressSat ∧
    (yieldStep p s).strain.setSource = s.strain.setSource ∧ (yieldStep p s).motion.encCount = s.motion.encCount ∧
    (yieldStep p s).motion.softLower = s.motion.softLower ∧ (yieldStep p s).motion.softUpper = s.motion.softUpper ∧
    (yieldStep p s).motion.sign = s.motion.sign ∧ (yieldStep p s).motion.refX = s.motion.refX ∧
    (yieldStep p s).motion.encA = s.motion.encA ∧ (yieldStep p s).motion.encB = s.motion.encB ∧
    (yieldStep p s).motion.encErrors = s.motion.encErrors ∧ (yieldStep p s).motion.periodDue = s.motion.periodDue ∧
    (yieldStep p s).motion.dwell = s.motion.dwell ∧ (yieldStep p s).motion.zeroRun = s.motion.zeroRun ∧
    (yieldStep p s).motion.blind = s.motion.blind ∧ (yieldStep p s).motion.lastWord = s.motion.lastWord ∧
    (yieldStep p s).loop.gPos = s.loop.gPos ∧ (yieldStep p s).loop.gStress = s.loop.gStress ∧
    (yieldStep p s).loop.gStrain = s.loop.gStrain ∧ (yieldStep p s).prot.latched = s.prot.latched ∧
    (yieldStep p s).prot.overload = s.prot.overload ∧ (yieldStep p s).prot.gripCount = s.prot.gripCount ∧
    (yieldStep p s).seq.method = s.seq.method ∧ (yieldStep p s).seq.phases = s.seq.phases ∧
    (yieldStep p s).seq.armedTrigger = s.seq.armedTrigger ∧ (yieldStep p s).seq.fractured = s.seq.fractured ∧
    (yieldStep p s).seq.abortCause = s.seq.abortCause ∧ (yieldStep p s).router.routes = s.router.routes ∧
    (yieldStep p s).router.notices = s.router.notices ∧ (yieldStep p s).router.lost = s.router.lost ∧
    (yieldStep p s).ins = s.ins ∧ (yieldStep p s).outs = s.outs ∧ (yieldStep p s).log.interval = s.log.interval ∧
    (yieldStep p s).log.seqNo = s.log.seqNo ∧ (yieldStep p s).log.stream = s.log.stream ∧
    (yieldStep p s).log.firstSkipped = s.log.firstSkipped ∧ (yieldStep p s).time.testTime = s.time.testTime ∧
    (yieldStep p s).time.sec = s.time.sec ∧ (yieldStep p s).time.ns = s.time.ns ∧
    (yieldStep p s).time.frac = s.time.frac ∧ (yieldStep p s).time.step = s.time.step ∧
    (yieldStep p s).time.trim = s.time.trim ∧ (yieldStep p s).time.crystal = s.time.crystal ∧
    (yieldStep p s).time.msSeen = s.time.msSeen ∧ (yieldStep p s).host = s.host ∧ (yieldStep p s).store = s.store ∧
    (yieldStep p s).free = s.free := by
  simp only [yieldStep]; (repeat' split) <;> simp

@[simp] theorem rmStep_frame (decidedBefore : Bool) (p : CurvePoint) (s : State) :
    (rmStep decidedBefore p s).pending = s.pending ∧ (rmStep decidedBefore p s).links = s.links ∧
    (rmStep decidedBefore p s).force = s.force ∧ (rmStep decidedBefore p s).strain.specimen = s.strain.specimen ∧
    (rmStep decidedBefore p s).strain.stress = s.strain.stress ∧
    (rmStep decidedBefore p s).strain.stressSat = s.strain.stressSat ∧
    (rmStep decidedBefore p s).strain.setSource = s.strain.setSource ∧
    (rmStep decidedBefore p s).motion.encCount = s.motion.encCount ∧
    (rmStep decidedBefore p s).motion.softLower = s.motion.softLower ∧
    (rmStep decidedBefore p s).motion.softUpper = s.motion.softUpper ∧
    (rmStep decidedBefore p s).motion.sign = s.motion.sign ∧
    (rmStep decidedBefore p s).motion.refX = s.motion.refX ∧
    (rmStep decidedBefore p s).motion.encA = s.motion.encA ∧
    (rmStep decidedBefore p s).motion.encB = s.motion.encB ∧
    (rmStep decidedBefore p s).motion.encErrors = s.motion.encErrors ∧
    (rmStep decidedBefore p s).motion.periodDue = s.motion.periodDue ∧
    (rmStep decidedBefore p s).motion.dwell = s.motion.dwell ∧
    (rmStep decidedBefore p s).motion.zeroRun = s.motion.zeroRun ∧
    (rmStep decidedBefore p s).motion.blind = s.motion.blind ∧
    (rmStep decidedBefore p s).motion.lastWord = s.motion.lastWord ∧
    (rmStep decidedBefore p s).loop.gPos = s.loop.gPos ∧ (rmStep decidedBefore p s).loop.gStress = s.loop.gStress ∧
    (rmStep decidedBefore p s).loop.gStrain = s.loop.gStrain ∧
    (rmStep decidedBefore p s).prot.latched = s.prot.latched ∧
    (rmStep decidedBefore p s).prot.overload = s.prot.overload ∧
    (rmStep decidedBefore p s).prot.gripCount = s.prot.gripCount ∧
    (rmStep decidedBefore p s).seq.method = s.seq.method ∧ (rmStep decidedBefore p s).seq.phases = s.seq.phases ∧
    (rmStep decidedBefore p s).seq.armedTrigger = s.seq.armedTrigger ∧
    (rmStep decidedBefore p s).seq.fractured = s.seq.fractured ∧
    (rmStep decidedBefore p s).seq.abortCause = s.seq.abortCause ∧
    (rmStep decidedBefore p s).router.routes = s.router.routes ∧
    (rmStep decidedBefore p s).router.notices = s.router.notices ∧
    (rmStep decidedBefore p s).router.lost = s.router.lost ∧ (rmStep decidedBefore p s).ins = s.ins ∧
    (rmStep decidedBefore p s).outs = s.outs ∧ (rmStep decidedBefore p s).log.interval = s.log.interval ∧
    (rmStep decidedBefore p s).log.seqNo = s.log.seqNo ∧ (rmStep decidedBefore p s).log.stream = s.log.stream ∧
    (rmStep decidedBefore p s).log.firstSkipped = s.log.firstSkipped ∧
    (rmStep decidedBefore p s).time.testTime = s.time.testTime ∧ (rmStep decidedBefore p s).time.sec = s.time.sec ∧
    (rmStep decidedBefore p s).time.ns = s.time.ns ∧ (rmStep decidedBefore p s).time.frac = s.time.frac ∧
    (rmStep decidedBefore p s).time.step = s.time.step ∧ (rmStep decidedBefore p s).time.trim = s.time.trim ∧
    (rmStep decidedBefore p s).time.crystal = s.time.crystal ∧
    (rmStep decidedBefore p s).time.msSeen = s.time.msSeen ∧ (rmStep decidedBefore p s).host = s.host ∧
    (rmStep decidedBefore p s).store = s.store ∧ (rmStep decidedBefore p s).free = s.free := by
  simp only [rmStep]; (repeat' split) <;> simp

@[simp] theorem takeFracture_frame (s : State) :
    (takeFracture s).pending = s.pending ∧ (takeFracture s).links = s.links ∧ (takeFracture s).force = s.force ∧
    (takeFracture s).strain = s.strain ∧ (takeFracture s).ext.secondary = s.ext.secondary ∧
    (takeFracture s).ext.slipM = s.ext.slipM ∧ (takeFracture s).ext.slipX = s.ext.slipX ∧
    (takeFracture s).motion.encCount = s.motion.encCount ∧ (takeFracture s).motion.softLower = s.motion.softLower ∧
    (takeFracture s).motion.softUpper = s.motion.softUpper ∧ (takeFracture s).motion.sign = s.motion.sign ∧
    (takeFracture s).motion.refX = s.motion.refX ∧ (takeFracture s).motion.encA = s.motion.encA ∧
    (takeFracture s).motion.encB = s.motion.encB ∧ (takeFracture s).motion.encErrors = s.motion.encErrors ∧
    (takeFracture s).motion.periodDue = s.motion.periodDue ∧ (takeFracture s).motion.dwell = s.motion.dwell ∧
    (takeFracture s).motion.zeroRun = s.motion.zeroRun ∧ (takeFracture s).motion.blind = s.motion.blind ∧
    (takeFracture s).motion.lastWord = s.motion.lastWord ∧ (takeFracture s).loop.gPos = s.loop.gPos ∧
    (takeFracture s).loop.gStress = s.loop.gStress ∧ (takeFracture s).loop.gStrain = s.loop.gStrain ∧
    (takeFracture s).loop.target = s.loop.target ∧ (takeFracture s).prot.latched = s.prot.latched ∧
    (takeFracture s).prot.overload = s.prot.overload ∧ (takeFracture s).prot.gripCount = s.prot.gripCount ∧
    (takeFracture s).seq.method = s.seq.method ∧ (takeFracture s).seq.phases = s.seq.phases ∧
    (takeFracture s).seq.phase = s.seq.phase ∧ (takeFracture s).seq.armedTrigger = s.seq.armedTrigger ∧
    (takeFracture s).seq.abortCause = s.seq.abortCause ∧ (takeFracture s).mon = s.mon ∧
    (takeFracture s).router.routes = s.router.routes ∧ (takeFracture s).router.notices = s.router.notices ∧
    (takeFracture s).router.lost = s.router.lost ∧ (takeFracture s).ins = s.ins ∧ (takeFracture s).outs = s.outs ∧
    (takeFracture s).result.n = s.result.n ∧ (takeFracture s).log.interval = s.log.interval ∧
    (takeFracture s).log.seqNo = s.log.seqNo ∧ (takeFracture s).log.stream = s.log.stream ∧
    (takeFracture s).log.firstSkipped = s.log.firstSkipped ∧ (takeFracture s).time.testTime = s.time.testTime ∧
    (takeFracture s).time.sec = s.time.sec ∧ (takeFracture s).time.ns = s.time.ns ∧
    (takeFracture s).time.frac = s.time.frac ∧ (takeFracture s).time.step = s.time.step ∧
    (takeFracture s).time.trim = s.time.trim ∧ (takeFracture s).time.crystal = s.time.crystal ∧
    (takeFracture s).time.msSeen = s.time.msSeen ∧ (takeFracture s).host = s.host ∧
    (takeFracture s).store = s.store ∧ (takeFracture s).free = s.free := by
  simp [takeFracture]

@[simp] theorem takePoint_frame (p : CurvePoint) (sat : Bool) (s : State) :
    (takePoint p sat s).pending = s.pending ∧ (takePoint p sat s).links = s.links ∧
    (takePoint p sat s).force = s.force ∧ (takePoint p sat s).strain.specimen = s.strain.specimen ∧
    (takePoint p sat s).strain.stress = s.strain.stress ∧
    (takePoint p sat s).strain.stressSat = s.strain.stressSat ∧
    (takePoint p sat s).strain.setSource = s.strain.setSource ∧
    (takePoint p sat s).motion.encCount = s.motion.encCount ∧
    (takePoint p sat s).motion.softLower = s.motion.softLower ∧
    (takePoint p sat s).motion.softUpper = s.motion.softUpper ∧ (takePoint p sat s).motion.sign = s.motion.sign ∧
    (takePoint p sat s).motion.refX = s.motion.refX ∧ (takePoint p sat s).motion.encA = s.motion.encA ∧
    (takePoint p sat s).motion.encB = s.motion.encB ∧ (takePoint p sat s).motion.encErrors = s.motion.encErrors ∧
    (takePoint p sat s).motion.periodDue = s.motion.periodDue ∧ (takePoint p sat s).motion.dwell = s.motion.dwell ∧
    (takePoint p sat s).motion.zeroRun = s.motion.zeroRun ∧ (takePoint p sat s).motion.blind = s.motion.blind ∧
    (takePoint p sat s).motion.lastWord = s.motion.lastWord ∧ (takePoint p sat s).loop.gPos = s.loop.gPos ∧
    (takePoint p sat s).loop.gStress = s.loop.gStress ∧ (takePoint p sat s).loop.gStrain = s.loop.gStrain ∧
    (takePoint p sat s).prot.latched = s.prot.latched ∧ (takePoint p sat s).prot.overload = s.prot.overload ∧
    (takePoint p sat s).prot.gripCount = s.prot.gripCount ∧ (takePoint p sat s).seq.method = s.seq.method ∧
    (takePoint p sat s).seq.phases = s.seq.phases ∧ (takePoint p sat s).seq.armedTrigger = s.seq.armedTrigger ∧
    (takePoint p sat s).seq.abortCause = s.seq.abortCause ∧ (takePoint p sat s).router.routes = s.router.routes ∧
    (takePoint p sat s).router.notices = s.router.notices ∧ (takePoint p sat s).router.lost = s.router.lost ∧
    (takePoint p sat s).ins = s.ins ∧ (takePoint p sat s).outs = s.outs ∧
    (takePoint p sat s).log.interval = s.log.interval ∧ (takePoint p sat s).log.seqNo = s.log.seqNo ∧
    (takePoint p sat s).log.stream = s.log.stream ∧ (takePoint p sat s).log.firstSkipped = s.log.firstSkipped ∧
    (takePoint p sat s).time.testTime = s.time.testTime ∧ (takePoint p sat s).time.sec = s.time.sec ∧
    (takePoint p sat s).time.ns = s.time.ns ∧ (takePoint p sat s).time.frac = s.time.frac ∧
    (takePoint p sat s).time.step = s.time.step ∧ (takePoint p sat s).time.trim = s.time.trim ∧
    (takePoint p sat s).time.crystal = s.time.crystal ∧ (takePoint p sat s).time.msSeen = s.time.msSeen ∧
    (takePoint p sat s).host = s.host ∧ (takePoint p sat s).store = s.store ∧ (takePoint p sat s).free = s.free := by
  simp only [takePoint, whileSame]; (repeat' split) <;> simp

end Sys2Proof.Machine
end

