-- ==== Sys2Proof/Laws/SensorLinks.lean ====
section
/-! SUPPORT. What each operation leaves alone, one lemma for each: a reading's way through the machine: force, receivers, the commands of the sensor links.
A field that a lemma does not name is one that the operation can change. -/

namespace Sys2Proof.Machine

/-! ## ForceOps -/

@[simp] theorem failTare_frame (cause : Int) (s : State) :
    (failTare cause s).pending = s.pending ∧ (failTare cause s).links = s.links ∧
    (failTare cause s).force.tare = s.force.tare ∧ (failTare cause s).force.f = s.force.f ∧
    (failTare cause s).force.fmax = s.force.fmax ∧ (failTare cause s).force.strainAtFmax = s.force.strainAtFmax ∧
    (failTare cause s).force.hasPoint = s.force.hasPoint ∧ (failTare cause s).force.uncal = s.force.uncal ∧
    (failTare cause s).strain = s.strain ∧ (failTare cause s).ext = s.ext ∧ (failTare cause s).motion = s.motion ∧
    (failTare cause s).loop = s.loop ∧ (failTare cause s).prot = s.prot ∧ (failTare cause s).seq = s.seq ∧
    (failTare cause s).mon = s.mon ∧ (failTare cause s).router.routes = s.router.routes ∧
    (failTare cause s).router.notices = s.router.notices ∧ (failTare cause s).router.lost = s.router.lost ∧
    (failTare cause s).ins = s.ins ∧ (failTare cause s).outs = s.outs ∧ (failTare cause s).result = s.result ∧
    (failTare cause s).log = s.log ∧ (failTare cause s).time = s.time ∧ (failTare cause s).host = s.host ∧
    (failTare cause s).store = s.store ∧ (failTare cause s).free = s.free := by
  simp only [failTare]; (repeat' split) <;> simp

@[simp] theorem convertLoad_frame (u : Int) (s : State) :
    (convertLoad u s).pending = s.pending ∧ (convertLoad u s).links = s.links ∧
    (convertLoad u s).force.fmax = s.force.fmax ∧ (convertLoad u s).force.strainAtFmax = s.force.strainAtFmax ∧
    (convertLoad u s).force.hasPoint = s.force.hasPoint ∧ (convertLoad u s).force.uncal = s.force.uncal ∧
    (convertLoad u s).strain = s.strain ∧ (convertLoad u s).ext = s.ext ∧ (convertLoad u s).motion = s.motion ∧
    (convertLoad u s).loop = s.loop ∧ (convertLoad u s).prot = s.prot ∧ (convertLoad u s).seq = s.seq ∧
    (convertLoad u s).mon = s.mon ∧ (convertLoad u s).router.routes = s.router.routes ∧
    (convertLoad u s).router.notices = s.router.notices ∧ (convertLoad u s).router.lost = s.router.lost ∧
    (convertLoad u s).ins = s.ins ∧ (convertLoad u s).outs = s.outs ∧ (convertLoad u s).result = s.result ∧
    (convertLoad u s).log = s.log ∧ (convertLoad u s).time = s.time ∧ (convertLoad u s).host = s.host ∧
    (convertLoad u s).store = s.store ∧ (convertLoad u s).free = s.free := by
  simp only [convertLoad]; (repeat' split) <;> simp

@[simp] theorem flagOverrange_frame (raw : Int) (s : State) :
    (flagOverrange raw s).pending = s.pending ∧ (flagOverrange raw s).links = s.links ∧
    (flagOverrange raw s).force.tare = s.force.tare ∧ (flagOverrange raw s).force.f = s.force.f ∧
    (flagOverrange raw s).force.tareOp = s.force.tareOp ∧ (flagOverrange raw s).force.fmax = s.force.fmax ∧
    (flagOverrange raw s).force.strainAtFmax = s.force.strainAtFmax ∧
    (flagOverrange raw s).force.hasPoint = s.force.hasPoint ∧ (flagOverrange raw s).force.uncal = s.force.uncal ∧
    (flagOverrange raw s).strain = s.strain ∧ (flagOverrange raw s).ext = s.ext ∧
    (flagOverrange raw s).motion = s.motion ∧ (flagOverrange raw s).loop = s.loop ∧
    (flagOverrange raw s).prot = s.prot ∧ (flagOverrange raw s).seq = s.seq ∧ (flagOverrange raw s).mon = s.mon ∧
    (flagOverrange raw s).router.routes = s.router.routes ∧
    (flagOverrange raw s).router.notices = s.router.notices ∧ (flagOverrange raw s).router.lost = s.router.lost ∧
    (flagOverrange raw s).ins = s.ins ∧ (flagOverrange raw s).outs = s.outs ∧
    (flagOverrange raw s).result = s.result ∧ (flagOverrange raw s).log = s.log ∧
    (flagOverrange raw s).time = s.time ∧ (flagOverrange raw s).host = s.host ∧
    (flagOverrange raw s).store = s.store ∧ (flagOverrange raw s).free = s.free := by
  simp only [flagOverrange]; (repeat' split) <;> simp

@[simp] theorem reportUncal_frame (r : Nat) (s : State) :
    (reportUncal r s).pending = s.pending ∧ (reportUncal r s).links = s.links ∧
    (reportUncal r s).force.tare = s.force.tare ∧ (reportUncal r s).force.f = s.force.f ∧
    (reportUncal r s).force.tareOp = s.force.tareOp ∧ (reportUncal r s).force.fmax = s.force.fmax ∧
    (reportUncal r s).force.strainAtFmax = s.force.strainAtFmax ∧
    (reportUncal r s).force.hasPoint = s.force.hasPoint ∧ (reportUncal r s).strain = s.strain ∧
    (reportUncal r s).ext = s.ext ∧ (reportUncal r s).motion = s.motion ∧ (reportUncal r s).loop = s.loop ∧
    (reportUncal r s).prot = s.prot ∧ (reportUncal r s).seq = s.seq ∧ (reportUncal r s).mon = s.mon ∧
    (reportUncal r s).router.routes = s.router.routes ∧ (reportUncal r s).router.notices = s.router.notices ∧
    (reportUncal r s).router.lost = s.router.lost ∧ (reportUncal r s).ins = s.ins ∧
    (reportUncal r s).outs = s.outs ∧ (reportUncal r s).result = s.result ∧ (reportUncal r s).log = s.log ∧
    (reportUncal r s).time = s.time ∧ (reportUncal r s).host = s.host ∧ (reportUncal r s).store = s.store ∧
    (reportUncal r s).free = s.free := by
  simp only [reportUncal]; (repeat' split) <;> simp

@[simp] theorem flagNear_frame (s : State) :
    (flagNear s).pending = s.pending ∧ (flagNear s).links = s.links ∧ (flagNear s).force.tare = s.force.tare ∧
    (flagNear s).force.f = s.force.f ∧ (flagNear s).force.tareOp = s.force.tareOp ∧
    (flagNear s).force.fmax = s.force.fmax ∧ (flagNear s).force.strainAtFmax = s.force.strainAtFmax ∧
    (flagNear s).force.hasPoint = s.force.hasPoint ∧ (flagNear s).force.uncal = s.force.uncal ∧
    (flagNear s).strain = s.strain ∧ (flagNear s).ext = s.ext ∧ (flagNear s).motion = s.motion ∧
    (flagNear s).loop = s.loop ∧ (flagNear s).prot = s.prot ∧ (flagNear s).seq = s.seq ∧ (flagNear s).mon = s.mon ∧
    (flagNear s).router.routes = s.router.routes ∧ (flagNear s).router.notices = s.router.notices ∧
    (flagNear s).router.lost = s.router.lost ∧ (flagNear s).ins = s.ins ∧ (flagNear s).outs = s.outs ∧
    (flagNear s).result = s.result ∧ (flagNear s).log = s.log ∧ (flagNear s).time = s.time ∧
    (flagNear s).host = s.host ∧ (flagNear s).store = s.store ∧ (flagNear s).free = s.free := by
  simp only [flagNear]; (repeat' split) <;> simp

@[simp] theorem formForce_frame (r : Nat) (flag : Bool) (raw : Int) (s : State) :
    (formForce r flag raw s).pending = s.pending ∧ (formForce r flag raw s).links = s.links ∧
    (formForce r flag raw s).force.fmax = s.force.fmax ∧
    (formForce r flag raw s).force.strainAtFmax = s.force.strainAtFmax ∧
    (formForce r flag raw s).force.hasPoint = s.force.hasPoint ∧ (formForce r flag raw s).strain = s.strain ∧
    (formForce r flag raw s).ext = s.ext ∧ (formForce r flag raw s).motion = s.motion ∧
    (formForce r flag raw s).loop = s.loop ∧ (formForce r flag raw s).prot = s.prot ∧
    (formForce r flag raw s).seq = s.seq ∧ (formForce r flag raw s).mon = s.mon ∧
    (formForce r flag raw s).router.routes = s.router.routes ∧
    (formForce r flag raw s).router.notices = s.router.notices ∧
    (formForce r flag raw s).router.lost = s.router.lost ∧ (formForce r flag raw s).ins = s.ins ∧
    (formForce r flag raw s).outs = s.outs ∧ (formForce r flag raw s).result = s.result ∧
    (formForce r flag raw s).log = s.log ∧ (formForce r flag raw s).time = s.time ∧
    (formForce r flag raw s).host = s.host ∧ (formForce r flag raw s).store = s.store ∧
    (formForce r flag raw s).free = s.free := by
  simp only [formForce]; (repeat' split) <;> simp

@[simp] theorem formStress_frame (s : State) :
    (formStress s).pending = s.pending ∧ (formStress s).links = s.links ∧ (formStress s).force = s.force ∧
    (formStress s).strain.specimen = s.strain.specimen ∧ (formStress s).strain.source = s.strain.source ∧
    (formStress s).strain.p0 = s.strain.p0 ∧ (formStress s).strain.stitch = s.strain.stitch ∧
    (formStress s).strain.epsC = s.strain.epsC ∧ (formStress s).strain.active = s.strain.active ∧
    (formStress s).strain.setSource = s.strain.setSource ∧
    (formStress s).ext = s.ext ∧ (formStress s).motion = s.motion ∧ (formStress s).loop = s.loop ∧
    (formStress s).prot = s.prot ∧ (formStress s).seq = s.seq ∧ (formStress s).mon = s.mon ∧
    (formStress s).router = s.router ∧ (formStress s).ins = s.ins ∧ (formStress s).outs = s.outs ∧
    (formStress s).result = s.result ∧ (formStress s).log = s.log ∧ (formStress s).time = s.time ∧
    (formStress s).host = s.host ∧ (formStress s).store = s.store ∧ (formStress s).free = s.free := by
  simp [formStress]

@[simp] theorem trackPeak_frame (s : State) :
    (trackPeak s).pending = s.pending ∧ (trackPeak s).links = s.links ∧ (trackPeak s).force.tare = s.force.tare ∧
    (trackPeak s).force.f = s.force.f ∧ (trackPeak s).force.tareOp = s.force.tareOp ∧
    (trackPeak s).force.uncal = s.force.uncal ∧ (trackPeak s).strain = s.strain ∧ (trackPeak s).ext = s.ext ∧
    (trackPeak s).motion = s.motion ∧ (trackPeak s).loop = s.loop ∧ (trackPeak s).prot = s.prot ∧
    (trackPeak s).seq = s.seq ∧ (trackPeak s).mon = s.mon ∧ (trackPeak s).router = s.router ∧
    (trackPeak s).ins = s.ins ∧ (trackPeak s).outs = s.outs ∧ (trackPeak s).result = s.result ∧
    (trackPeak s).log = s.log ∧ (trackPeak s).time = s.time ∧ (trackPeak s).host = s.host ∧
    (trackPeak s).store = s.store ∧ (trackPeak s).free = s.free := by
  simp only [trackPeak]; (repeat' split) <;> simp

@[simp] theorem monitorForce_frame (s : State) :
    (monitorForce s).pending = s.pending ∧ (monitorForce s).links = s.links ∧ (monitorForce s).force = s.force ∧
    (monitorForce s).strain = s.strain ∧ (monitorForce s).ext = s.ext ∧ (monitorForce s).motion = s.motion ∧
    (monitorForce s).loop = s.loop ∧ (monitorForce s).prot = s.prot ∧ (monitorForce s).seq = s.seq ∧
    (monitorForce s).router = s.router ∧ (monitorForce s).ins = s.ins ∧ (monitorForce s).outs = s.outs ∧
    (monitorForce s).result = s.result ∧ (monitorForce s).log = s.log ∧ (monitorForce s).time = s.time ∧
    (monitorForce s).host = s.host ∧ (monitorForce s).store = s.store ∧ (monitorForce s).free = s.free := by
  simp only [monitorForce]; (repeat' split) <;> simp

@[simp] theorem testOverload_frame (s : State) :
    (testOverload s).pending = s.pending ∧ (testOverload s).links = s.links ∧ (testOverload s).force = s.force ∧
    (testOverload s).strain = s.strain ∧ (testOverload s).ext.secondary = s.ext.secondary ∧
    (testOverload s).ext.slipM = s.ext.slipM ∧ (testOverload s).ext.slipX = s.ext.slipX ∧
    (testOverload s).motion.encCount = s.motion.encCount ∧ (testOverload s).motion.softLower = s.motion.softLower ∧
    (testOverload s).motion.softUpper = s.motion.softUpper ∧ (testOverload s).motion.sign = s.motion.sign ∧
    (testOverload s).motion.refX = s.motion.refX ∧ (testOverload s).motion.encA = s.motion.encA ∧
    (testOverload s).motion.encB = s.motion.encB ∧ (testOverload s).motion.encErrors = s.motion.encErrors ∧
    (testOverload s).motion.periodDue = s.motion.periodDue ∧ (testOverload s).motion.dwell = s.motion.dwell ∧
    (testOverload s).motion.zeroRun = s.motion.zeroRun ∧ (testOverload s).motion.blind = s.motion.blind ∧
    (testOverload s).motion.lastWord = s.motion.lastWord ∧ (testOverload s).loop.gPos = s.loop.gPos ∧
    (testOverload s).loop.gStress = s.loop.gStress ∧ (testOverload s).loop.gStrain = s.loop.gStrain ∧
    (testOverload s).loop.target = s.loop.target ∧ (testOverload s).prot.gripCount = s.prot.gripCount ∧
    (testOverload s).seq.method = s.seq.method ∧ (testOverload s).seq.phases = s.seq.phases ∧
    (testOverload s).seq.phase = s.seq.phase ∧ (testOverload s).seq.fractured = s.seq.fractured ∧
    (testOverload s).mon = s.mon ∧ (testOverload s).router.routes = s.router.routes ∧
    (testOverload s).router.notices = s.router.notices ∧ (testOverload s).router.lost = s.router.lost ∧
    (testOverload s).ins = s.ins ∧ (testOverload s).outs = s.outs ∧ (testOverload s).result.n = s.result.n ∧
    (testOverload s).result.fracArmed = s.result.fracArmed ∧ (testOverload s).log.interval = s.log.interval ∧
    (testOverload s).log.seqNo = s.log.seqNo ∧ (testOverload s).log.stream = s.log.stream ∧
    (testOverload s).log.firstSkipped = s.log.firstSkipped ∧ (testOverload s).time.testTime = s.time.testTime ∧
    (testOverload s).time.sec = s.time.sec ∧ (testOverload s).time.ns = s.time.ns ∧
    (testOverload s).time.frac = s.time.frac ∧ (testOverload s).time.step = s.time.step ∧
    (testOverload s).time.trim = s.time.trim ∧ (testOverload s).time.crystal = s.time.crystal ∧
    (testOverload s).time.msSeen = s.time.msSeen ∧ (testOverload s).host = s.host ∧
    (testOverload s).store = s.store ∧ (testOverload s).free = s.free := by
  simp only [testOverload]; (repeat' split) <;> simp

@[simp] theorem noteSet_frame (s : State) :
    (noteSet s).pending = s.pending ∧ (noteSet s).links = s.links ∧ (noteSet s).force = s.force ∧
    (noteSet s).strain.specimen = s.strain.specimen ∧ (noteSet s).strain.stress = s.strain.stress ∧
    (noteSet s).strain.stressSat = s.strain.stressSat ∧ (noteSet s).strain.source = s.strain.source ∧
    (noteSet s).strain.p0 = s.strain.p0 ∧ (noteSet s).strain.stitch = s.strain.stitch ∧
    (noteSet s).strain.epsC = s.strain.epsC ∧ (noteSet s).strain.active = s.strain.active ∧
    (noteSet s).strain.setSource = s.strain.source ∧ (noteSet s).ext = s.ext ∧ (noteSet s).motion = s.motion ∧
    (noteSet s).loop = s.loop ∧ (noteSet s).prot = s.prot ∧ (noteSet s).seq = s.seq ∧ (noteSet s).mon = s.mon ∧
    (noteSet s).router = s.router ∧ (noteSet s).ins = s.ins ∧ (noteSet s).outs = s.outs ∧
    (noteSet s).result = s.result ∧ (noteSet s).log = s.log ∧ (noteSet s).time = s.time ∧
    (noteSet s).host = s.host ∧ (noteSet s).store = s.store ∧ (noteSet s).free = s.free := by
  simp [noteSet]

/-- When a set is handed on, the log flags carry the source kept with it (02 R30). -/
theorem logSource_noteSet (s : State) : (noteSet s).logSource = (noteSet s).strain.setSource := rfl

@[simp] theorem curveStep_frame (s : State) :
    (curveStep s).pending = s.pending ∧ (curveStep s).links = s.links ∧ (curveStep s).force = s.force ∧
    (curveStep s).strain.specimen = s.strain.specimen ∧ (curveStep s).strain.stress = s.strain.stress ∧
    (curveStep s).strain.stressSat = s.strain.stressSat ∧
    (curveStep s).strain.setSource = s.strain.setSource ∧ (curveStep s).motion.encCount = s.motion.encCount ∧
    (curveStep s).motion.softLower = s.motion.softLower ∧ (curveStep s).motion.softUpper = s.motion.softUpper ∧
    (curveStep s).motion.sign = s.motion.sign ∧ (curveStep s).motion.refX = s.motion.refX ∧
    (curveStep s).motion.encA = s.motion.encA ∧ (curveStep s).motion.encB = s.motion.encB ∧
    (curveStep s).motion.encErrors = s.motion.encErrors ∧ (curveStep s).motion.periodDue = s.motion.periodDue ∧
    (curveStep s).motion.dwell = s.motion.dwell ∧ (curveStep s).motion.zeroRun = s.motion.zeroRun ∧
    (curveStep s).motion.blind = s.motion.blind ∧ (curveStep s).motion.lastWord = s.motion.lastWord ∧
    (curveStep s).loop.gPos = s.loop.gPos ∧ (curveStep s).loop.gStress = s.loop.gStress ∧
    (curveStep s).loop.gStrain = s.loop.gStrain ∧ (curveStep s).prot.latched = s.prot.latched ∧
    (curveStep s).prot.overload = s.prot.overload ∧ (curveStep s).prot.gripCount = s.prot.gripCount ∧
    (curveStep s).seq.method = s.seq.method ∧ (curveStep s).seq.phases = s.seq.phases ∧
    (curveStep s).seq.armedTrigger = s.seq.armedTrigger ∧ (curveStep s).seq.abortCause = s.seq.abortCause ∧
    (curveStep s).router.routes = s.router.routes ∧ (curveStep s).router.notices = s.router.notices ∧
    (curveStep s).router.lost = s.router.lost ∧ (curveStep s).ins = s.ins ∧ (curveStep s).outs = s.outs ∧
    (curveStep s).log.interval = s.log.interval ∧ (curveStep s).log.seqNo = s.log.seqNo ∧
    (curveStep s).log.stream = s.log.stream ∧ (curveStep s).log.firstSkipped = s.log.firstSkipped ∧
    (curveStep s).time.testTime = s.time.testTime ∧ (curveStep s).time.sec = s.time.sec ∧
    (curveStep s).time.ns = s.time.ns ∧ (curveStep s).time.frac = s.time.frac ∧
    (curveStep s).time.step = s.time.step ∧ (curveStep s).time.trim = s.time.trim ∧
    (curveStep s).time.crystal = s.time.crystal ∧ (curveStep s).time.msSeen = s.time.msSeen ∧
    (curveStep s).host = s.host ∧ (curveStep s).store = s.store ∧ (curveStep s).free = s.free := by
  simp only [curveStep]; (repeat' split) <;> simp

@[simp] theorem handOn_frame (s : State) :
    (handOn s).pending = s.pending ∧ (handOn s).links = s.links ∧ (handOn s).force.tare = s.force.tare ∧
    (handOn s).force.f = s.force.f ∧ (handOn s).force.tareOp = s.force.tareOp ∧
    (handOn s).force.uncal = s.force.uncal ∧ (handOn s).strain.specimen = s.strain.specimen ∧
    (handOn s).motion.encCount = s.motion.encCount ∧ (handOn s).motion.softLower = s.motion.softLower ∧
    (handOn s).motion.softUpper = s.motion.softUpper ∧ (handOn s).motion.sign = s.motion.sign ∧
    (handOn s).motion.refX = s.motion.refX ∧ (handOn s).motion.encA = s.motion.encA ∧
    (handOn s).motion.encB = s.motion.encB ∧ (handOn s).motion.encErrors = s.motion.encErrors ∧
    (handOn s).motion.periodDue = s.motion.periodDue ∧ (handOn s).motion.dwell = s.motion.dwell ∧
    (handOn s).motion.zeroRun = s.motion.zeroRun ∧ (handOn s).motion.blind = s.motion.blind ∧
    (handOn s).motion.lastWord = s.motion.lastWord ∧ (handOn s).loop.gPos = s.loop.gPos ∧
    (handOn s).loop.gStress = s.loop.gStress ∧ (handOn s).loop.gStrain = s.loop.gStrain ∧
    (handOn s).prot.gripCount = s.prot.gripCount ∧ (handOn s).seq.method = s.seq.method ∧
    (handOn s).seq.phases = s.seq.phases ∧ (handOn s).router.routes = s.router.routes ∧
    (handOn s).router.notices = s.router.notices ∧ (handOn s).router.lost = s.router.lost ∧ (handOn s).ins = s.ins ∧
    (handOn s).outs = s.outs ∧ (handOn s).log.interval = s.log.interval ∧ (handOn s).log.seqNo = s.log.seqNo ∧
    (handOn s).log.stream = s.log.stream ∧ (handOn s).log.firstSkipped = s.log.firstSkipped ∧
    (handOn s).time.testTime = s.time.testTime ∧ (handOn s).time.sec = s.time.sec ∧ (handOn s).time.ns = s.time.ns ∧
    (handOn s).time.frac = s.time.frac ∧ (handOn s).time.step = s.time.step ∧ (handOn s).time.trim = s.time.trim ∧
    (handOn s).time.crystal = s.time.crystal ∧ (handOn s).time.msSeen = s.time.msSeen ∧ (handOn s).host = s.host ∧
    (handOn s).store = s.store ∧ (handOn s).free = s.free := by
  simp only [handOn]; (repeat' split) <;> simp

@[simp] theorem loadReading_frame (r : Nat) (flag : Bool) (raw : Int) (s : State) :
    (loadReading r flag raw s).pending = s.pending ∧ (loadReading r flag raw s).links = s.links ∧
    (loadReading r flag raw s).strain.specimen = s.strain.specimen ∧
    (loadReading r flag raw s).motion.encCount = s.motion.encCount ∧
    (loadReading r flag raw s).motion.softLower = s.motion.softLower ∧
    (loadReading r flag raw s).motion.softUpper = s.motion.softUpper ∧
    (loadReading r flag raw s).motion.sign = s.motion.sign ∧
    (loadReading r flag raw s).motion.refX = s.motion.refX ∧
    (loadReading r flag raw s).motion.encA = s.motion.encA ∧
    (loadReading r flag raw s).motion.encB = s.motion.encB ∧
    (loadReading r flag raw s).motion.encErrors = s.motion.encErrors ∧
    (loadReading r flag raw s).motion.periodDue = s.motion.periodDue ∧
    (loadReading r flag raw s).motion.dwell = s.motion.dwell ∧
    (loadReading r flag raw s).motion.zeroRun = s.motion.zeroRun ∧
    (loadReading r flag raw s).motion.blind = s.motion.blind ∧
    (loadReading r flag raw s).motion.lastWord = s.motion.lastWord ∧
    (loadReading r flag raw s).loop.gPos = s.loop.gPos ∧ (loadReading r flag raw s).loop.gStress = s.loop.gStress ∧
    (loadReading r flag raw s).loop.gStrain = s.loop.gStrain ∧
    (loadReading r flag raw s).prot.gripCount = s.prot.gripCount ∧
    (loadReading r flag raw s).seq.method = s.seq.method ∧ (loadReading r flag raw s).seq.phases = s.seq.phases ∧
    (loadReading r flag raw s).router.routes = s.router.routes ∧
    (loadReading r flag raw s).router.notices = s.router.notices ∧
    (loadReading r flag raw s).router.lost = s.router.lost ∧ (loadReading r flag raw s).ins = s.ins ∧
    (loadReading r flag raw s).outs = s.outs ∧ (loadReading r flag raw s).log.interval = s.log.interval ∧
    (loadReading r flag raw s).log.seqNo = s.log.seqNo ∧ (loadReading r flag raw s).log.stream = s.log.stream ∧
    (loadReading r flag raw s).log.firstSkipped = s.log.firstSkipped ∧
    (loadReading r flag raw s).time.testTime = s.time.testTime ∧ (loadReading r flag raw s).time.sec = s.time.sec ∧
    (loadReading r flag raw s).time.ns = s.time.ns ∧ (loadReading r flag raw s).time.frac = s.time.frac ∧
    (loadReading r flag raw s).time.step = s.time.step ∧ (loadReading r flag raw s).time.trim = s.time.trim ∧
    (loadReading r flag raw s).time.crystal = s.time.crystal ∧
    (loadReading r flag raw s).time.msSeen = s.time.msSeen ∧ (loadReading r flag raw s).host = s.host ∧
    (loadReading r flag raw s).store = s.store ∧ (loadReading r flag raw s).free = s.free := by
  simp [loadReading]

@[simp] theorem extReading_frame (x : ExtNo) (flag : Bool) (raw : Int) (s : State) :
    (extReading x flag raw s).pending = s.pending ∧ (extReading x flag raw s).links = s.links ∧
    (extReading x flag raw s).force = s.force ∧ (extReading x flag raw s).strain.specimen = s.strain.specimen ∧
    (extReading x flag raw s).strain.stress = s.strain.stress ∧
    (extReading x flag raw s).strain.stressSat = s.strain.stressSat ∧
    (extReading x flag raw s).strain.setSource = s.strain.setSource ∧
    (extReading x flag raw s).motion.encCount = s.motion.encCount ∧
    (extReading x flag raw s).motion.softLower = s.motion.softLower ∧
    (extReading x flag raw s).motion.softUpper = s.motion.softUpper ∧
    (extReading x flag raw s).motion.sign = s.motion.sign ∧ (extReading x flag raw s).motion.refX = s.motion.refX ∧
    (extReading x flag raw s).motion.encA = s.motion.encA ∧ (extReading x flag raw s).motion.encB = s.motion.encB ∧
    (extReading x flag raw s).motion.encErrors = s.motion.encErrors ∧
    (extReading x flag raw s).motion.periodDue = s.motion.periodDue ∧
    (extReading x flag raw s).motion.dwell = s.motion.dwell ∧
    (extReading x flag raw s).motion.zeroRun = s.motion.zeroRun ∧
    (extReading x flag raw s).motion.blind = s.motion.blind ∧
    (extReading x flag raw s).motion.lastWord = s.motion.lastWord ∧
    (extReading x flag raw s).loop.gPos = s.loop.gPos ∧ (extReading x flag raw s).loop.gStress = s.loop.gStress ∧
    (extReading x flag raw s).loop.gStrain = s.loop.gStrain ∧
    (extReading x flag raw s).prot.latched = s.prot.latched ∧
    (extReading x flag raw s).prot.overload = s.prot.overload ∧
    (extReading x flag raw s).prot.gripCount = s.prot.gripCount ∧
    (extReading x flag raw s).seq.method = s.seq.method ∧ (extReading x flag raw s).seq.phases = s.seq.phases ∧
    (extReading x flag raw s).seq.armedTrigger = s.seq.armedTrigger ∧
    (extReading x flag raw s).seq.fractured = s.seq.fractured ∧
    (extReading x flag raw s).seq.abortCause = s.seq.abortCause ∧
    (extReading x flag raw s).router.routes = s.router.routes ∧
    (extReading x flag raw s).router.notices = s.router.notices ∧
    (extReading x flag raw s).router.lost = s.router.lost ∧ (extReading x flag raw s).ins = s.ins ∧
    (extReading x flag raw s).outs = s.outs ∧ (extReading x flag raw s).log.interval = s.log.interval ∧
    (extReading x flag raw s).log.seqNo = s.log.seqNo ∧ (extReading x flag raw s).log.stream = s.log.stream ∧
    (extReading x flag raw s).log.firstSkipped = s.log.firstSkipped ∧
    (extReading x flag raw s).time.testTime = s.time.testTime ∧ (extReading x flag raw s).time.sec = s.time.sec ∧
    (extReading x flag raw s).time.ns = s.time.ns ∧ (extReading x flag raw s).time.frac = s.time.frac ∧
    (extReading x flag raw s).time.step = s.time.step ∧ (extReading x flag raw s).time.trim = s.time.trim ∧
    (extReading x flag raw s).time.crystal = s.time.crystal ∧
    (extReading x flag raw s).time.msSeen = s.time.msSeen ∧ (extReading x flag raw s).host = s.host ∧
    (extReading x flag raw s).store = s.store ∧ (extReading x flag raw s).free = s.free := by
  simp only [extReading]; (repeat' split) <;> simp

/-! ## SensorLinks -/

@[simp] theorem updLink_frame (n : Link) (g : Receiver → Receiver) (s : State) :
    (updLink n g s).pending = s.pending ∧ (updLink n g s).force = s.force ∧ (updLink n g s).strain = s.strain ∧
    (updLink n g s).ext = s.ext ∧ (updLink n g s).motion = s.motion ∧ (updLink n g s).loop = s.loop ∧
    (updLink n g s).prot = s.prot ∧ (updLink n g s).seq = s.seq ∧ (updLink n g s).mon = s.mon ∧
    (updLink n g s).router = s.router ∧ (updLink n g s).ins = s.ins ∧ (updLink n g s).outs = s.outs ∧
    (updLink n g s).result = s.result ∧ (updLink n g s).log = s.log ∧ (updLink n g s).time = s.time ∧
    (updLink n g s).host = s.host ∧ (updLink n g s).store = s.store ∧ (updLink n g s).free = s.free := by
  simp [updLink]

@[simp] theorem markBlind_frame (s : State) :
    (markBlind s).pending = s.pending ∧ (markBlind s).links = s.links ∧ (markBlind s).force = s.force ∧
    (markBlind s).strain = s.strain ∧ (markBlind s).ext = s.ext ∧ (markBlind s).motion.state = s.motion.state ∧
    (markBlind s).motion.queue = s.motion.queue ∧ (markBlind s).motion.driveEn = s.motion.driveEn ∧
    (markBlind s).motion.lastDemand = s.motion.lastDemand ∧ (markBlind s).motion.jog = s.motion.jog ∧
    (markBlind s).motion.keepalive = s.motion.keepalive ∧ (markBlind s).motion.encCount = s.motion.encCount ∧
    (markBlind s).motion.softLower = s.motion.softLower ∧ (markBlind s).motion.softUpper = s.motion.softUpper ∧
    (markBlind s).motion.sign = s.motion.sign ∧ (markBlind s).motion.refX = s.motion.refX ∧
    (markBlind s).motion.encA = s.motion.encA ∧ (markBlind s).motion.encB = s.motion.encB ∧
    (markBlind s).motion.encErrors = s.motion.encErrors ∧ (markBlind s).motion.periodDue = s.motion.periodDue ∧
    (markBlind s).motion.dwell = s.motion.dwell ∧ (markBlind s).motion.zeroRun = s.motion.zeroRun ∧
    (markBlind s).motion.dest = s.motion.dest ∧ (markBlind s).motion.lastWord = s.motion.lastWord ∧
    (markBlind s).loop.gPos = s.loop.gPos ∧ (markBlind s).loop.gStress = s.loop.gStress ∧
    (markBlind s).loop.gStrain = s.loop.gStrain ∧ (markBlind s).loop.mode = s.loop.mode ∧
    (markBlind s).loop.target = s.loop.target ∧ (markBlind s).prot = s.prot ∧ (markBlind s).seq = s.seq ∧
    (markBlind s).mon = s.mon ∧ (markBlind s).router = s.router ∧ (markBlind s).ins = s.ins ∧
    (markBlind s).outs = s.outs ∧ (markBlind s).result = s.result ∧ (markBlind s).log = s.log ∧
    (markBlind s).time = s.time ∧ (markBlind s).host = s.host ∧ (markBlind s).store = s.store ∧
    (markBlind s).free = s.free := by
  simp [markBlind]

@[simp] theorem reportBlind_frame (before : Bool) (ceiling : Nat) (s : State) :
    (reportBlind before ceiling s).pending = s.pending ∧ (reportBlind before ceiling s).links = s.links ∧
    (reportBlind before ceiling s).force = s.force ∧ (reportBlind before ceiling s).strain = s.strain ∧
    (reportBlind before ceiling s).ext = s.ext ∧ (reportBlind before ceiling s).motion = s.motion ∧
    (reportBlind before ceiling s).loop = s.loop ∧ (reportBlind before ceiling s).prot = s.prot ∧
    (reportBlind before ceiling s).seq = s.seq ∧ (reportBlind before ceiling s).mon = s.mon ∧
    (reportBlind before ceiling s).router.routes = s.router.routes ∧
    (reportBlind before ceiling s).router.notices = s.router.notices ∧
    (reportBlind before ceiling s).router.lost = s.router.lost ∧ (reportBlind before ceiling s).ins = s.ins ∧
    (reportBlind before ceiling s).outs = s.outs ∧ (reportBlind before ceiling s).result = s.result ∧
    (reportBlind before ceiling s).log = s.log ∧ (reportBlind before ceiling s).time = s.time ∧
    (reportBlind before ceiling s).host = s.host ∧ (reportBlind before ceiling s).store = s.store ∧
    (reportBlind before ceiling s).free = s.free := by
  simp only [reportBlind]; (repeat' split) <;> simp

@[simp] theorem updateBlind_frame (s : State) :
    (updateBlind s).pending = s.pending ∧ (updateBlind s).links = s.links ∧ (updateBlind s).force = s.force ∧
    (updateBlind s).strain = s.strain ∧ (updateBlind s).ext = s.ext ∧
    (updateBlind s).motion.state = s.motion.state ∧ (updateBlind s).motion.queue = s.motion.queue ∧
    (updateBlind s).motion.driveEn = s.motion.driveEn ∧ (updateBlind s).motion.lastDemand = s.motion.lastDemand ∧
    (updateBlind s).motion.jog = s.motion.jog ∧ (updateBlind s).motion.keepalive = s.motion.keepalive ∧
    (updateBlind s).motion.encCount = s.motion.encCount ∧ (updateBlind s).motion.softLower = s.motion.softLower ∧
    (updateBlind s).motion.softUpper = s.motion.softUpper ∧ (updateBlind s).motion.sign = s.motion.sign ∧
    (updateBlind s).motion.refX = s.motion.refX ∧ (updateBlind s).motion.encA = s.motion.encA ∧
    (updateBlind s).motion.encB = s.motion.encB ∧ (updateBlind s).motion.encErrors = s.motion.encErrors ∧
    (updateBlind s).motion.periodDue = s.motion.periodDue ∧ (updateBlind s).motion.dwell = s.motion.dwell ∧
    (updateBlind s).motion.zeroRun = s.motion.zeroRun ∧ (updateBlind s).motion.dest = s.motion.dest ∧
    (updateBlind s).motion.lastWord = s.motion.lastWord ∧ (updateBlind s).loop.gPos = s.loop.gPos ∧
    (updateBlind s).loop.gStress = s.loop.gStress ∧ (updateBlind s).loop.gStrain = s.loop.gStrain ∧
    (updateBlind s).loop.mode = s.loop.mode ∧ (updateBlind s).loop.target = s.loop.target ∧
    (updateBlind s).prot = s.prot ∧ (updateBlind s).seq = s.seq ∧ (updateBlind s).mon = s.mon ∧
    (updateBlind s).router.routes = s.router.routes ∧ (updateBlind s).router.notices = s.router.notices ∧
    (updateBlind s).router.lost = s.router.lost ∧ (updateBlind s).ins = s.ins ∧ (updateBlind s).outs = s.outs ∧
    (updateBlind s).result = s.result ∧ (updateBlind s).log = s.log ∧ (updateBlind s).time = s.time ∧
    (updateBlind s).host = s.host ∧ (updateBlind s).store = s.store ∧ (updateBlind s).free = s.free := by
  simp [updateBlind]

@[simp] theorem lockLoss_frame (s : State) :
    (lockLoss s).pending = s.pending ∧ (lockLoss s).links = s.links ∧ (lockLoss s).force = s.force ∧
    (lockLoss s).strain = s.strain ∧ (lockLoss s).ext.secondary = s.ext.secondary ∧
    (lockLoss s).ext.slipM = s.ext.slipM ∧ (lockLoss s).ext.slipX = s.ext.slipX ∧
    (lockLoss s).motion.encCount = s.motion.encCount ∧ (lockLoss s).motion.softLower = s.motion.softLower ∧
    (lockLoss s).motion.softUpper = s.motion.softUpper ∧ (lockLoss s).motion.sign = s.motion.sign ∧
    (lockLoss s).motion.refX = s.motion.refX ∧ (lockLoss s).motion.encA = s.motion.encA ∧
    (lockLoss s).motion.encB = s.motion.encB ∧ (lockLoss s).motion.encErrors = s.motion.encErrors ∧
    (lockLoss s).motion.periodDue = s.motion.periodDue ∧ (lockLoss s).motion.dwell = s.motion.dwell ∧
    (lockLoss s).motion.zeroRun = s.motion.zeroRun ∧ (lockLoss s).motion.blind = s.motion.blind ∧
    (lockLoss s).motion.lastWord = s.motion.lastWord ∧ (lockLoss s).loop.gPos = s.loop.gPos ∧
    (lockLoss s).loop.gStress = s.loop.gStress ∧ (lockLoss s).loop.gStrain = s.loop.gStrain ∧
    (lockLoss s).prot.latched = s.prot.latched ∧ (lockLoss s).prot.overload = s.prot.overload ∧
    (lockLoss s).prot.gripCount = s.prot.gripCount ∧ (lockLoss s).seq.method = s.seq.method ∧
    (lockLoss s).seq.phases = s.seq.phases ∧ (lockLoss s).seq.phase = s.seq.phase ∧
    (lockLoss s).seq.fractured = s.seq.fractured ∧ (lockLoss s).mon = s.mon ∧
    (lockLoss s).router.routes = s.router.routes ∧ (lockLoss s).router.notices = s.router.notices ∧
    (lockLoss s).router.lost = s.router.lost ∧ (lockLoss s).ins = s.ins ∧ (lockLoss s).outs = s.outs ∧
    (lockLoss s).result.n = s.result.n ∧ (lockLoss s).result.fracArmed = s.result.fracArmed ∧
    (lockLoss s).log.interval = s.log.interval ∧ (lockLoss s).log.seqNo = s.log.seqNo ∧
    (lockLoss s).log.stream = s.log.stream ∧ (lockLoss s).log.firstSkipped = s.log.firstSkipped ∧
    (lockLoss s).time.testTime = s.time.testTime ∧ (lockLoss s).time.sec = s.time.sec ∧
    (lockLoss s).time.ns = s.time.ns ∧ (lockLoss s).time.frac = s.time.frac ∧ (lockLoss s).time.step = s.time.step ∧
    (lockLoss s).time.trim = s.time.trim ∧ (lockLoss s).time.crystal = s.time.crystal ∧
    (lockLoss s).time.msSeen = s.time.msSeen ∧ (lockLoss s).host = s.host ∧ (lockLoss s).store = s.store ∧
    (lockLoss s).free = s.free := by
  simp only [lockLoss]; (repeat' split) <;> simp

@[simp] theorem lockChanged_frame (n : Link) (locked : Bool) (s : State) :
    (lockChanged n locked s).pending = s.pending ∧ (lockChanged n locked s).links = s.links ∧
    (lockChanged n locked s).force.tare = s.force.tare ∧ (lockChanged n locked s).force.f = s.force.f ∧
    (lockChanged n locked s).force.fmax = s.force.fmax ∧
    (lockChanged n locked s).force.strainAtFmax = s.force.strainAtFmax ∧
    (lockChanged n locked s).force.hasPoint = s.force.hasPoint ∧
    (lockChanged n locked s).force.uncal = s.force.uncal ∧
    (lockChanged n locked s).strain.specimen = s.strain.specimen ∧
    (lockChanged n locked s).strain.stress = s.strain.stress ∧
    (lockChanged n locked s).strain.stressSat = s.strain.stressSat ∧
    (lockChanged n locked s).strain.setSource = s.strain.setSource ∧
    (lockChanged n locked s).motion.encCount = s.motion.encCount ∧
    (lockChanged n locked s).motion.softLower = s.motion.softLower ∧
    (lockChanged n locked s).motion.softUpper = s.motion.softUpper ∧
    (lockChanged n locked s).motion.sign = s.motion.sign ∧ (lockChanged n locked s).motion.refX = s.motion.refX ∧
    (lockChanged n locked s).motion.encA = s.motion.encA ∧ (lockChanged n locked s).motion.encB = s.motion.encB ∧
    (lockChanged n locked s).motion.encErrors = s.motion.encErrors ∧
    (lockChanged n locked s).motion.periodDue = s.motion.periodDue ∧
    (lockChanged n locked s).motion.dwell = s.motion.dwell ∧
    (lockChanged n locked s).motion.zeroRun = s.motion.zeroRun ∧
    (lockChanged n locked s).motion.lastWord = s.motion.lastWord ∧
    (lockChanged n locked s).loop.gPos = s.loop.gPos ∧ (lockChanged n locked s).loop.gStress = s.loop.gStress ∧
    (lockChanged n locked s).loop.gStrain = s.loop.gStrain ∧
    (lockChanged n locked s).prot.latched = s.prot.latched ∧
    (lockChanged n locked s).prot.overload = s.prot.overload ∧
    (lockChanged n locked s).prot.gripCount = s.prot.gripCount ∧
    (lockChanged n locked s).seq.method = s.seq.method ∧ (lockChanged n locked s).seq.phases = s.seq.phases ∧
    (lockChanged n locked s).seq.fractured = s.seq.fractured ∧
    (lockChanged n locked s).router.routes = s.router.routes ∧
    (lockChanged n locked s).router.notices = s.router.notices ∧
    (lockChanged n locked s).router.lost = s.router.lost ∧ (lockChanged n locked s).ins = s.ins ∧
    (lockChanged n locked s).outs = s.outs ∧ (lockChanged n locked s).log.interval = s.log.interval ∧
    (lockChanged n locked s).log.seqNo = s.log.seqNo ∧ (lockChanged n locked s).log.stream = s.log.stream ∧
    (lockChanged n locked s).log.firstSkipped = s.log.firstSkipped ∧
    (lockChanged n locked s).time.testTime = s.time.testTime ∧ (lockChanged n locked s).time.sec = s.time.sec ∧
    (lockChanged n locked s).time.ns = s.time.ns ∧ (lockChanged n locked s).time.frac = s.time.frac ∧
    (lockChanged n locked s).time.step = s.time.step ∧ (lockChanged n locked s).time.trim = s.time.trim ∧
    (lockChanged n locked s).time.crystal = s.time.crystal ∧ (lockChanged n locked s).time.msSeen = s.time.msSeen ∧
    (lockChanged n locked s).host = s.host ∧ (lockChanged n locked s).store = s.store ∧
    (lockChanged n locked s).free = s.free := by
  simp only [lockChanged]; (repeat' split) <;> simp

@[simp] theorem addErrors_frame (n : Link) (k : Nat) (s : State) :
    (addErrors n k s).pending = s.pending ∧ (addErrors n k s).force = s.force ∧
    (addErrors n k s).strain = s.strain ∧ (addErrors n k s).ext = s.ext ∧ (addErrors n k s).motion = s.motion ∧
    (addErrors n k s).loop = s.loop ∧ (addErrors n k s).prot = s.prot ∧ (addErrors n k s).seq = s.seq ∧
    (addErrors n k s).mon = s.mon ∧ (addErrors n k s).router.routes = s.router.routes ∧
    (addErrors n k s).router.notices = s.router.notices ∧ (addErrors n k s).router.lost = s.router.lost ∧
    (addErrors n k s).ins = s.ins ∧ (addErrors n k s).outs = s.outs ∧ (addErrors n k s).result = s.result ∧
    (addErrors n k s).log = s.log ∧ (addErrors n k s).time = s.time ∧ (addErrors n k s).host = s.host ∧
    (addErrors n k s).store = s.store ∧ (addErrors n k s).free = s.free := by
  simp only [addErrors]; (repeat' split) <;> simp

@[simp] theorem reportLock_frame (n : Link) (before : Receiver) (s : State) :
    (reportLock n before s).pending = s.pending ∧ (reportLock n before s).links = s.links ∧
    (reportLock n before s).force.tare = s.force.tare ∧ (reportLock n before s).force.f = s.force.f ∧
    (reportLock n before s).force.fmax = s.force.fmax ∧
    (reportLock n before s).force.strainAtFmax = s.force.strainAtFmax ∧
    (reportLock n before s).force.hasPoint = s.force.hasPoint ∧
    (reportLock n before s).force.uncal = s.force.uncal ∧
    (reportLock n before s).strain.specimen = s.strain.specimen ∧
    (reportLock n before s).strain.stress = s.strain.stress ∧
    (reportLock n before s).strain.stressSat = s.strain.stressSat ∧
    (reportLock n before s).strain.setSource = s.strain.setSource ∧
    (reportLock n before s).motion.encCount = s.motion.encCount ∧
    (reportLock n before s).motion.softLower = s.motion.softLower ∧
    (reportLock n before s).motion.softUpper = s.motion.softUpper ∧
    (reportLock n before s).motion.sign = s.motion.sign ∧ (reportLock n before s).motion.refX = s.motion.refX ∧
    (reportLock n before s).motion.encA = s.motion.encA ∧ (reportLock n before s).motion.encB = s.motion.encB ∧
    (reportLock n before s).motion.encErrors = s.motion.encErrors ∧
    (reportLock n before s).motion.periodDue = s.motion.periodDue ∧
    (reportLock n before s).motion.dwell = s.motion.dwell ∧
    (reportLock n before s).motion.zeroRun = s.motion.zeroRun ∧
    (reportLock n before s).motion.lastWord = s.motion.lastWord ∧ (reportLock n before s).loop.gPos = s.loop.gPos ∧
    (reportLock n before s).loop.gStress = s.loop.gStress ∧ (reportLock n before s).loop.gStrain = s.loop.gStrain ∧
    (reportLock n before s).prot.latched = s.prot.latched ∧
    (reportLock n before s).prot.overload = s.prot.overload ∧
    (reportLock n before s).prot.gripCount = s.prot.gripCount ∧ (reportLock n before s).seq.method = s.seq.method ∧
    (reportLock n before s).seq.phases = s.seq.phases ∧ (reportLock n before s).seq.fractured = s.seq.fractured ∧
    (reportLock n before s).router.routes = s.router.routes ∧
    (reportLock n before s).router.notices = s.router.notices ∧
    (reportLock n before s).router.lost = s.router.lost ∧ (reportLock n before s).ins = s.ins ∧
    (reportLock n before s).outs = s.outs ∧ (reportLock n before s).log.interval = s.log.interval ∧
    (reportLock n before s).log.seqNo = s.log.seqNo ∧ (reportLock n before s).log.stream = s.log.stream ∧
    (reportLock n before s).log.firstSkipped = s.log.firstSkipped ∧
    (reportLock n before s).time.testTime = s.time.testTime ∧ (reportLock n before s).time.sec = s.time.sec ∧
    (reportLock n before s).time.ns = s.time.ns ∧ (reportLock n before s).time.frac = s.time.frac ∧
    (reportLock n before s).time.step = s.time.step ∧ (reportLock n before s).time.trim = s.time.trim ∧
    (reportLock n before s).time.crystal = s.time.crystal ∧ (reportLock n before s).time.msSeen = s.time.msSeen ∧
    (reportLock n before s).host = s.host ∧ (reportLock n before s).store = s.store ∧
    (reportLock n before s).free = s.free := by
  simp only [reportLock]; (repeat' split) <;> simp

@[simp] theorem badFrame_frame (n : Link) (s : State) :
    (badFrame n s).pending = s.pending ∧ (badFrame n s).force.tare = s.force.tare ∧
    (badFrame n s).force.f = s.force.f ∧ (badFrame n s).force.fmax = s.force.fmax ∧
    (badFrame n s).force.strainAtFmax = s.force.strainAtFmax ∧ (badFrame n s).force.hasPoint = s.force.hasPoint ∧
    (badFrame n s).force.uncal = s.force.uncal ∧ (badFrame n s).strain.specimen = s.strain.specimen ∧
    (badFrame n s).strain.stress = s.strain.stress ∧ (badFrame n s).strain.stressSat = s.strain.stressSat ∧
    (badFrame n s).strain.setSource = s.strain.setSource ∧
    (badFrame n s).motion.encCount = s.motion.encCount ∧ (badFrame n s).motion.softLower = s.motion.softLower ∧
    (badFrame n s).motion.softUpper = s.motion.softUpper ∧ (badFrame n s).motion.sign = s.motion.sign ∧
    (badFrame n s).motion.refX = s.motion.refX ∧ (badFrame n s).motion.encA = s.motion.encA ∧
    (badFrame n s).motion.encB = s.motion.encB ∧ (badFrame n s).motion.encErrors = s.motion.encErrors ∧
    (badFrame n s).motion.periodDue = s.motion.periodDue ∧ (badFrame n s).motion.dwell = s.motion.dwell ∧
    (badFrame n s).motion.zeroRun = s.motion.zeroRun ∧ (badFrame n s).motion.lastWord = s.motion.lastWord ∧
    (badFrame n s).loop.gPos = s.loop.gPos ∧ (badFrame n s).loop.gStress = s.loop.gStress ∧
    (badFrame n s).loop.gStrain = s.loop.gStrain ∧ (badFrame n s).prot.latched = s.prot.latched ∧
    (badFrame n s).prot.overload = s.prot.overload ∧ (badFrame n s).prot.gripCount = s.prot.gripCount ∧
    (badFrame n s).seq.method = s.seq.method ∧ (badFrame n s).seq.phases = s.seq.phases ∧
    (badFrame n s).seq.fractured = s.seq.fractured ∧ (badFrame n s).router.routes = s.router.routes ∧
    (badFrame n s).router.notices = s.router.notices ∧ (badFrame n s).router.lost = s.router.lost ∧
    (badFrame n s).ins = s.ins ∧ (badFrame n s).outs = s.outs ∧ (badFrame n s).log.interval = s.log.interval ∧
    (badFrame n s).log.seqNo = s.log.seqNo ∧ (badFrame n s).log.stream = s.log.stream ∧
    (badFrame n s).log.firstSkipped = s.log.firstSkipped ∧ (badFrame n s).time.testTime = s.time.testTime ∧
    (badFrame n s).time.sec = s.time.sec ∧ (badFrame n s).time.ns = s.time.ns ∧
    (badFrame n s).time.frac = s.time.frac ∧ (badFrame n s).time.step = s.time.step ∧
    (badFrame n s).time.trim = s.time.trim ∧ (badFrame n s).time.crystal = s.time.crystal ∧
    (badFrame n s).time.msSeen = s.time.msSeen ∧ (badFrame n s).host = s.host ∧ (badFrame n s).store = s.store ∧
    (badFrame n s).free = s.free := by
  simp [badFrame]

@[simp] theorem deliver_frame (n : Link) (status : Byte) (raw : Int) (s : State) :
    (deliver n status raw s).pending = s.pending ∧ (deliver n status raw s).links = s.links ∧
    (deliver n status raw s).strain.specimen = s.strain.specimen ∧
    (deliver n status raw s).motion.encCount = s.motion.encCount ∧
    (deliver n status raw s).motion.softLower = s.motion.softLower ∧
    (deliver n status raw s).motion.softUpper = s.motion.softUpper ∧
    (deliver n status raw s).motion.sign = s.motion.sign ∧ (deliver n status raw s).motion.refX = s.motion.refX ∧
    (deliver n status raw s).motion.encA = s.motion.encA ∧ (deliver n status raw s).motion.encB = s.motion.encB ∧
    (deliver n status raw s).motion.encErrors = s.motion.encErrors ∧
    (deliver n status raw s).motion.periodDue = s.motion.periodDue ∧
    (deliver n status raw s).motion.dwell = s.motion.dwell ∧
    (deliver n status raw s).motion.zeroRun = s.motion.zeroRun ∧
    (deliver n status raw s).motion.blind = s.motion.blind ∧
    (deliver n status raw s).motion.lastWord = s.motion.lastWord ∧
    (deliver n status raw s).loop.gPos = s.loop.gPos ∧ (deliver n status raw s).loop.gStress = s.loop.gStress ∧
    (deliver n status raw s).loop.gStrain = s.loop.gStrain ∧
    (deliver n status raw s).prot.gripCount = s.prot.gripCount ∧
    (deliver n status raw s).seq.method = s.seq.method ∧ (deliver n status raw s).seq.phases = s.seq.phases ∧
    (deliver n status raw s).router.routes = s.router.routes ∧
    (deliver n status raw s).router.notices = s.router.notices ∧
    (deliver n status raw s).router.lost = s.router.lost ∧ (deliver n status raw s).ins = s.ins ∧
    (deliver n status raw s).outs = s.outs ∧ (deliver n status raw s).log.interval = s.log.interval ∧
    (deliver n status raw s).log.seqNo = s.log.seqNo ∧ (deliver n status raw s).log.stream = s.log.stream ∧
    (deliver n status raw s).log.firstSkipped = s.log.firstSkipped ∧
    (deliver n status raw s).time.testTime = s.time.testTime ∧ (deliver n status raw s).time.sec = s.time.sec ∧
    (deliver n status raw s).time.ns = s.time.ns ∧ (deliver n status raw s).time.frac = s.time.frac ∧
    (deliver n status raw s).time.step = s.time.step ∧ (deliver n status raw s).time.trim = s.time.trim ∧
    (deliver n status raw s).time.crystal = s.time.crystal ∧ (deliver n status raw s).time.msSeen = s.time.msSeen ∧
    (deliver n status raw s).host = s.host ∧ (deliver n status raw s).store = s.store ∧
    (deliver n status raw s).free = s.free := by
  simp only [deliver]; (repeat' split) <;> simp

@[simp] theorem goodFrame_frame (n : Link) (status : Byte) (sq : Byte) (raw : Int) (s : State) :
    (goodFrame n status sq raw s).pending = s.pending ∧
    (goodFrame n status sq raw s).strain.specimen = s.strain.specimen ∧
    (goodFrame n status sq raw s).motion.encCount = s.motion.encCount ∧
    (goodFrame n status sq raw s).motion.softLower = s.motion.softLower ∧
    (goodFrame n status sq raw s).motion.softUpper = s.motion.softUpper ∧
    (goodFrame n status sq raw s).motion.sign = s.motion.sign ∧
    (goodFrame n status sq raw s).motion.refX = s.motion.refX ∧
    (goodFrame n status sq raw s).motion.encA = s.motion.encA ∧
    (goodFrame n status sq raw s).motion.encB = s.motion.encB ∧
    (goodFrame n status sq raw s).motion.encErrors = s.motion.encErrors ∧
    (goodFrame n status sq raw s).motion.periodDue = s.motion.periodDue ∧
    (goodFrame n status sq raw s).motion.dwell = s.motion.dwell ∧
    (goodFrame n status sq raw s).motion.zeroRun = s.motion.zeroRun ∧
    (goodFrame n status sq raw s).motion.lastWord = s.motion.lastWord ∧
    (goodFrame n status sq raw s).loop.gPos = s.loop.gPos ∧
    (goodFrame n status sq raw s).loop.gStress = s.loop.gStress ∧
    (goodFrame n status sq raw s).loop.gStrain = s.loop.gStrain ∧
    (goodFrame n status sq raw s).prot.gripCount = s.prot.gripCount ∧
    (goodFrame n status sq raw s).seq.method = s.seq.method ∧
    (goodFrame n status sq raw s).seq.phases = s.seq.phases ∧
    (goodFrame n status sq raw s).router.routes = s.router.routes ∧
    (goodFrame n status sq raw s).router.notices = s.router.notices ∧
    (goodFrame n status sq raw s).router.lost = s.router.lost ∧ (goodFrame n status sq raw s).ins = s.ins ∧
    (goodFrame n status sq raw s).outs = s.outs ∧ (goodFrame n status sq raw s).log.interval = s.log.interval ∧
    (goodFrame n status sq raw s).log.seqNo = s.log.seqNo ∧
    (goodFrame n status sq raw s).log.stream = s.log.stream ∧
    (goodFrame n status sq raw s).log.firstSkipped = s.log.firstSkipped ∧
    (goodFrame n status sq raw s).time.testTime = s.time.testTime ∧
    (goodFrame n status sq raw s).time.sec = s.time.sec ∧ (goodFrame n status sq raw s).time.ns = s.time.ns ∧
    (goodFrame n status sq raw s).time.frac = s.time.frac ∧ (goodFrame n status sq raw s).time.step = s.time.step ∧
    (goodFrame n status sq raw s).time.trim = s.time.trim ∧
    (goodFrame n status sq raw s).time.crystal = s.time.crystal ∧
    (goodFrame n status sq raw s).time.msSeen = s.time.msSeen ∧ (goodFrame n status sq raw s).host = s.host ∧
    (goodFrame n status sq raw s).store = s.store ∧ (goodFrame n status sq raw s).free = s.free := by
  simp [goodFrame]

@[simp] theorem takeFrame_frame (n : Link) (bytes : List Byte) (s : State) :
    (takeFrame n bytes s).pending = s.pending ∧ (takeFrame n bytes s).strain.specimen = s.strain.specimen ∧
    (takeFrame n bytes s).motion.encCount = s.motion.encCount ∧
    (takeFrame n bytes s).motion.softLower = s.motion.softLower ∧
    (takeFrame n bytes s).motion.softUpper = s.motion.softUpper ∧
    (takeFrame n bytes s).motion.sign = s.motion.sign ∧ (takeFrame n bytes s).motion.refX = s.motion.refX ∧
    (takeFrame n bytes s).motion.encA = s.motion.encA ∧ (takeFrame n bytes s).motion.encB = s.motion.encB ∧
    (takeFrame n bytes s).motion.encErrors = s.motion.encErrors ∧
    (takeFrame n bytes s).motion.periodDue = s.motion.periodDue ∧
    (takeFrame n bytes s).motion.dwell = s.motion.dwell ∧ (takeFrame n bytes s).motion.zeroRun = s.motion.zeroRun ∧
    (takeFrame n bytes s).motion.lastWord = s.motion.lastWord ∧ (takeFrame n bytes s).loop.gPos = s.loop.gPos ∧
    (takeFrame n bytes s).loop.gStress = s.loop.gStress ∧ (takeFrame n bytes s).loop.gStrain = s.loop.gStrain ∧
    (takeFrame n bytes s).prot.gripCount = s.prot.gripCount ∧ (takeFrame n bytes s).seq.method = s.seq.method ∧
    (takeFrame n bytes s).seq.phases = s.seq.phases ∧ (takeFrame n bytes s).router.routes = s.router.routes ∧
    (takeFrame n bytes s).router.notices = s.router.notices ∧ (takeFrame n bytes s).router.lost = s.router.lost ∧
    (takeFrame n bytes s).ins = s.ins ∧ (takeFrame n bytes s).outs = s.outs ∧
    (takeFrame n bytes s).log.interval = s.log.interval ∧ (takeFrame n bytes s).log.seqNo = s.log.seqNo ∧
    (takeFrame n bytes s).log.stream = s.log.stream ∧ (takeFrame n bytes s).log.firstSkipped = s.log.firstSkipped ∧
    (takeFrame n bytes s).time.testTime = s.time.testTime ∧ (takeFrame n bytes s).time.sec = s.time.sec ∧
    (takeFrame n bytes s).time.ns = s.time.ns ∧ (takeFrame n bytes s).time.frac = s.time.frac ∧
    (takeFrame n bytes s).time.step = s.time.step ∧ (takeFrame n bytes s).time.trim = s.time.trim ∧
    (takeFrame n bytes s).time.crystal = s.time.crystal ∧ (takeFrame n bytes s).time.msSeen = s.time.msSeen ∧
    (takeFrame n bytes s).host = s.host ∧ (takeFrame n bytes s).store = s.store ∧
    (takeFrame n bytes s).free = s.free := by
  simp only [takeFrame]; (repeat' split) <;> simp

@[simp] theorem sensorChar_frame (n : Link) (s : State) (c : SerialChar) :
    (sensorChar n s c).pending = s.pending ∧ (sensorChar n s c).strain.specimen = s.strain.specimen ∧
    (sensorChar n s c).motion.encCount = s.motion.encCount ∧
    (sensorChar n s c).motion.softLower = s.motion.softLower ∧
    (sensorChar n s c).motion.softUpper = s.motion.softUpper ∧ (sensorChar n s c).motion.sign = s.motion.sign ∧
    (sensorChar n s c).motion.refX = s.motion.refX ∧ (sensorChar n s c).motion.encA = s.motion.encA ∧
    (sensorChar n s c).motion.encB = s.motion.encB ∧ (sensorChar n s c).motion.encErrors = s.motion.encErrors ∧
    (sensorChar n s c).motion.periodDue = s.motion.periodDue ∧ (sensorChar n s c).motion.dwell = s.motion.dwell ∧
    (sensorChar n s c).motion.zeroRun = s.motion.zeroRun ∧ (sensorChar n s c).motion.lastWord = s.motion.lastWord ∧
    (sensorChar n s c).loop.gPos = s.loop.gPos ∧ (sensorChar n s c).loop.gStress = s.loop.gStress ∧
    (sensorChar n s c).loop.gStrain = s.loop.gStrain ∧ (sensorChar n s c).prot.gripCount = s.prot.gripCount ∧
    (sensorChar n s c).seq.method = s.seq.method ∧ (sensorChar n s c).seq.phases = s.seq.phases ∧
    (sensorChar n s c).router.routes = s.router.routes ∧ (sensorChar n s c).ins = s.ins ∧
    (sensorChar n s c).log.interval = s.log.interval ∧ (sensorChar n s c).log.seqNo = s.log.seqNo ∧
    (sensorChar n s c).log.stream = s.log.stream ∧ (sensorChar n s c).log.firstSkipped = s.log.firstSkipped ∧
    (sensorChar n s c).time.testTime = s.time.testTime ∧ (sensorChar n s c).time.sec = s.time.sec ∧
    (sensorChar n s c).time.ns = s.time.ns ∧ (sensorChar n s c).time.frac = s.time.frac ∧
    (sensorChar n s c).time.step = s.time.step ∧ (sensorChar n s c).time.trim = s.time.trim ∧
    (sensorChar n s c).time.crystal = s.time.crystal ∧ (sensorChar n s c).time.msSeen = s.time.msSeen ∧
    (sensorChar n s c).host.rx = s.host.rx ∧ (sensorChar n s c).host.replies = s.host.replies ∧
    (sensorChar n s c).host.goodFrames = s.host.goodFrames ∧ (sensorChar n s c).host.crcErrors = s.host.crcErrors ∧
    (sensorChar n s c).host.framingErrors = s.host.framingErrors ∧
    (sensorChar n s c).host.overruns = s.host.overruns ∧ (sensorChar n s c).host.framesSent = s.host.framesSent ∧
    (sensorChar n s c).host.resetPending = s.host.resetPending ∧ (sensorChar n s c).store = s.store ∧
    (sensorChar n s c).free = s.free := by
  simp only [sensorChar]; (repeat' split) <;> simp

@[simp] theorem doSensorFrame_frame (n : Link) (chars : List SerialChar) (s : State) :
    (doSensorFrame n chars s).pending = s.pending ∧ (doSensorFrame n chars s).strain.specimen = s.strain.specimen ∧
    (doSensorFrame n chars s).motion.encCount = s.motion.encCount ∧
    (doSensorFrame n chars s).motion.softLower = s.motion.softLower ∧
    (doSensorFrame n chars s).motion.softUpper = s.motion.softUpper ∧
    (doSensorFrame n chars s).motion.sign = s.motion.sign ∧ (doSensorFrame n chars s).motion.refX = s.motion.refX ∧
    (doSensorFrame n chars s).motion.encA = s.motion.encA ∧ (doSensorFrame n chars s).motion.encB = s.motion.encB ∧
    (doSensorFrame n chars s).motion.encErrors = s.motion.encErrors ∧
    (doSensorFrame n chars s).motion.periodDue = s.motion.periodDue ∧
    (doSensorFrame n chars s).motion.dwell = s.motion.dwell ∧
    (doSensorFrame n chars s).motion.zeroRun = s.motion.zeroRun ∧
    (doSensorFrame n chars s).motion.lastWord = s.motion.lastWord ∧
    (doSensorFrame n chars s).loop.gPos = s.loop.gPos ∧ (doSensorFrame n chars s).loop.gStress = s.loop.gStress ∧
    (doSensorFrame n chars s).loop.gStrain = s.loop.gStrain ∧
    (doSensorFrame n chars s).prot.gripCount = s.prot.gripCount ∧
    (doSensorFrame n chars s).seq.method = s.seq.method ∧ (doSensorFrame n chars s).seq.phases = s.seq.phases ∧
    (doSensorFrame n chars s).router.routes = s.router.routes ∧ (doSensorFrame n chars s).ins = s.ins ∧
    (doSensorFrame n chars s).log.interval = s.log.interval ∧ (doSensorFrame n chars s).log.seqNo = s.log.seqNo ∧
    (doSensorFrame n chars s).log.stream = s.log.stream ∧
    (doSensorFrame n chars s).log.firstSkipped = s.log.firstSkipped ∧
    (doSensorFrame n chars s).time.testTime = s.time.testTime ∧ (doSensorFrame n chars s).time.sec = s.time.sec ∧
    (doSensorFrame n chars s).time.ns = s.time.ns ∧ (doSensorFrame n chars s).time.frac = s.time.frac ∧
    (doSensorFrame n chars s).time.step = s.time.step ∧ (doSensorFrame n chars s).time.trim = s.time.trim ∧
    (doSensorFrame n chars s).time.crystal = s.time.crystal ∧
    (doSensorFrame n chars s).time.msSeen = s.time.msSeen ∧ (doSensorFrame n chars s).host.rx = s.host.rx ∧
    (doSensorFrame n chars s).host.replies = s.host.replies ∧
    (doSensorFrame n chars s).host.goodFrames = s.host.goodFrames ∧
    (doSensorFrame n chars s).host.crcErrors = s.host.crcErrors ∧
    (doSensorFrame n chars s).host.framingErrors = s.host.framingErrors ∧
    (doSensorFrame n chars s).host.overruns = s.host.overruns ∧
    (doSensorFrame n chars s).host.framesSent = s.host.framesSent ∧
    (doSensorFrame n chars s).host.resetPending = s.host.resetPending ∧ (doSensorFrame n chars s).store = s.store ∧
    (doSensorFrame n chars s).free = s.free := by
  induction chars generalizing s with | nil => simp [doSensorFrame] | cons c l ih => have h := ih (sensorChar n s c); simp only [sensorChar_frame] at h; exact h

@[simp] theorem doSensorCharGapTimeout_frame (n : Link) (s : State) :
    (doSensorCharGapTimeout n s).pending = s.pending ∧ (doSensorCharGapTimeout n s).force.tare = s.force.tare ∧
    (doSensorCharGapTimeout n s).force.f = s.force.f ∧ (doSensorCharGapTimeout n s).force.fmax = s.force.fmax ∧
    (doSensorCharGapTimeout n s).force.strainAtFmax = s.force.strainAtFmax ∧
    (doSensorCharGapTimeout n s).force.hasPoint = s.force.hasPoint ∧
    (doSensorCharGapTimeout n s).force.uncal = s.force.uncal ∧
    (doSensorCharGapTimeout n s).strain.specimen = s.strain.specimen ∧
    (doSensorCharGapTimeout n s).strain.stress = s.strain.stress ∧
    (doSensorCharGapTimeout n s).strain.stressSat = s.strain.stressSat ∧
    (doSensorCharGapTimeout n s).strain.setSource = s.strain.setSource ∧
    (doSensorCharGapTimeout n s).motion.encCount = s.motion.encCount ∧
    (doSensorCharGapTimeout n s).motion.softLower = s.motion.softLower ∧
    (doSensorCharGapTimeout n s).motion.softUpper = s.motion.softUpper ∧
    (doSensorCharGapTimeout n s).motion.sign = s.motion.sign ∧
    (doSensorCharGapTimeout n s).motion.refX = s.motion.refX ∧
    (doSensorCharGapTimeout n s).motion.encA = s.motion.encA ∧
    (doSensorCharGapTimeout n s).motion.encB = s.motion.encB ∧
    (doSensorCharGapTimeout n s).motion.encErrors = s.motion.encErrors ∧
    (doSensorCharGapTimeout n s).motion.periodDue = s.motion.periodDue ∧
    (doSensorCharGapTimeout n s).motion.dwell = s.motion.dwell ∧
    (doSensorCharGapTimeout n s).motion.zeroRun = s.motion.zeroRun ∧
    (doSensorCharGapTimeout n s).motion.lastWord = s.motion.lastWord ∧
    (doSensorCharGapTimeout n s).loop.gPos = s.loop.gPos ∧
    (doSensorCharGapTimeout n s).loop.gStress = s.loop.gStress ∧
    (doSensorCharGapTimeout n s).loop.gStrain = s.loop.gStrain ∧
    (doSensorCharGapTimeout n s).prot.latched = s.prot.latched ∧
    (doSensorCharGapTimeout n s).prot.overload = s.prot.overload ∧
    (doSensorCharGapTimeout n s).prot.gripCount = s.prot.gripCount ∧
    (doSensorCharGapTimeout n s).seq.method = s.seq.method ∧
    (doSensorCharGapTimeout n s).seq.phases = s.seq.phases ∧
    (doSensorCharGapTimeout n s).seq.fractured = s.seq.fractured ∧
    (doSensorCharGapTimeout n s).router.routes = s.router.routes ∧ (doSensorCharGapTimeout n s).ins = s.ins ∧
    (doSensorCharGapTimeout n s).log.interval = s.log.interval ∧
    (doSensorCharGapTimeout n s).log.seqNo = s.log.seqNo ∧ (doSensorCharGapTimeout n s).log.stream = s.log.stream ∧
    (doSensorCharGapTimeout n s).log.firstSkipped = s.log.firstSkipped ∧
    (doSensorCharGapTimeout n s).time.testTime = s.time.testTime ∧
    (doSensorCharGapTimeout n s).time.sec = s.time.sec ∧ (doSensorCharGapTimeout n s).time.ns = s.time.ns ∧
    (doSensorCharGapTimeout n s).time.frac = s.time.frac ∧ (doSensorCharGapTimeout n s).time.step = s.time.step ∧
    (doSensorCharGapTimeout n s).time.trim = s.time.trim ∧
    (doSensorCharGapTimeout n s).time.crystal = s.time.crystal ∧
    (doSensorCharGapTimeout n s).time.msSeen = s.time.msSeen ∧ (doSensorCharGapTimeout n s).host.rx = s.host.rx ∧
    (doSensorCharGapTimeout n s).host.replies = s.host.replies ∧
    (doSensorCharGapTimeout n s).host.goodFrames = s.host.goodFrames ∧
    (doSensorCharGapTimeout n s).host.crcErrors = s.host.crcErrors ∧
    (doSensorCharGapTimeout n s).host.framingErrors = s.host.framingErrors ∧
    (doSensorCharGapTimeout n s).host.overruns = s.host.overruns ∧
    (doSensorCharGapTimeout n s).host.framesSent = s.host.framesSent ∧
    (doSensorCharGapTimeout n s).host.resetPending = s.host.resetPending ∧
    (doSensorCharGapTimeout n s).store = s.store ∧ (doSensorCharGapTimeout n s).free = s.free := by
  simp only [doSensorCharGapTimeout]; (repeat' split) <;> simp

@[simp] theorem doSilenceTimerExpiry_frame (n : Link) (s : State) :
    (doSilenceTimerExpiry n s).pending = s.pending ∧ (doSilenceTimerExpiry n s).force.tare = s.force.tare ∧
    (doSilenceTimerExpiry n s).force.f = s.force.f ∧ (doSilenceTimerExpiry n s).force.fmax = s.force.fmax ∧
    (doSilenceTimerExpiry n s).force.strainAtFmax = s.force.strainAtFmax ∧
    (doSilenceTimerExpiry n s).force.hasPoint = s.force.hasPoint ∧
    (doSilenceTimerExpiry n s).force.uncal = s.force.uncal ∧
    (doSilenceTimerExpiry n s).strain.specimen = s.strain.specimen ∧
    (doSilenceTimerExpiry n s).strain.stress = s.strain.stress ∧
    (doSilenceTimerExpiry n s).strain.stressSat = s.strain.stressSat ∧
    (doSilenceTimerExpiry n s).strain.setSource = s.strain.setSource ∧
    (doSilenceTimerExpiry n s).motion.encCount = s.motion.encCount ∧
    (doSilenceTimerExpiry n s).motion.softLower = s.motion.softLower ∧
    (doSilenceTimerExpiry n s).motion.softUpper = s.motion.softUpper ∧
    (doSilenceTimerExpiry n s).motion.sign = s.motion.sign ∧
    (doSilenceTimerExpiry n s).motion.refX = s.motion.refX ∧
    (doSilenceTimerExpiry n s).motion.encA = s.motion.encA ∧
    (doSilenceTimerExpiry n s).motion.encB = s.motion.encB ∧
    (doSilenceTimerExpiry n s).motion.encErrors = s.motion.encErrors ∧
    (doSilenceTimerExpiry n s).motion.periodDue = s.motion.periodDue ∧
    (doSilenceTimerExpiry n s).motion.dwell = s.motion.dwell ∧
    (doSilenceTimerExpiry n s).motion.zeroRun = s.motion.zeroRun ∧
    (doSilenceTimerExpiry n s).motion.lastWord = s.motion.lastWord ∧
    (doSilenceTimerExpiry n s).loop.gPos = s.loop.gPos ∧ (doSilenceTimerExpiry n s).loop.gStress = s.loop.gStress ∧
    (doSilenceTimerExpiry n s).loop.gStrain = s.loop.gStrain ∧
    (doSilenceTimerExpiry n s).prot.latched = s.prot.latched ∧
    (doSilenceTimerExpiry n s).prot.overload = s.prot.overload ∧
    (doSilenceTimerExpiry n s).prot.gripCount = s.prot.gripCount ∧
    (doSilenceTimerExpiry n s).seq.method = s.seq.method ∧ (doSilenceTimerExpiry n s).seq.phases = s.seq.phases ∧
    (doSilenceTimerExpiry n s).seq.fractured = s.seq.fractured ∧
    (doSilenceTimerExpiry n s).router.routes = s.router.routes ∧ (doSilenceTimerExpiry n s).ins = s.ins ∧
    (doSilenceTimerExpiry n s).log.interval = s.log.interval ∧ (doSilenceTimerExpiry n s).log.seqNo = s.log.seqNo ∧
    (doSilenceTimerExpiry n s).log.stream = s.log.stream ∧
    (doSilenceTimerExpiry n s).log.firstSkipped = s.log.firstSkipped ∧
    (doSilenceTimerExpiry n s).time.testTime = s.time.testTime ∧ (doSilenceTimerExpiry n s).time.sec = s.time.sec ∧
    (doSilenceTimerExpiry n s).time.ns = s.time.ns ∧ (doSilenceTimerExpiry n s).time.frac = s.time.frac ∧
    (doSilenceTimerExpiry n s).time.step = s.time.step ∧ (doSilenceTimerExpiry n s).time.trim = s.time.trim ∧
    (doSilenceTimerExpiry n s).time.crystal = s.time.crystal ∧
    (doSilenceTimerExpiry n s).time.msSeen = s.time.msSeen ∧ (doSilenceTimerExpiry n s).host.rx = s.host.rx ∧
    (doSilenceTimerExpiry n s).host.replies = s.host.replies ∧
    (doSilenceTimerExpiry n s).host.goodFrames = s.host.goodFrames ∧
    (doSilenceTimerExpiry n s).host.crcErrors = s.host.crcErrors ∧
    (doSilenceTimerExpiry n s).host.framingErrors = s.host.framingErrors ∧
    (doSilenceTimerExpiry n s).host.overruns = s.host.overruns ∧
    (doSilenceTimerExpiry n s).host.framesSent = s.host.framesSent ∧
    (doSilenceTimerExpiry n s).host.resetPending = s.host.resetPending ∧
    (doSilenceTimerExpiry n s).store = s.store ∧ (doSilenceTimerExpiry n s).free = s.free := by
  simp only [doSilenceTimerExpiry]; (repeat' split) <;> simp

end Sys2Proof.Machine
end

