-- ==== Sys2Proof/Laws/Motion.lean ====
section
/-! SUPPORT. What each operation leaves alone, one lemma for each: Machine Protection and Crosshead Motion.
A field that a lemma does not name is one that the operation can change. -/

namespace Sys2Proof.Machine

/-! ## Protect -/

@[simp] theorem latchImmediate_frame (g : FaultSet → FaultSet) (c : AbortCause) (s : State) :
    (latchImmediate g c s).pending = s.pending ∧ (latchImmediate g c s).links = s.links ∧
    (latchImmediate g c s).force = s.force ∧ (latchImmediate g c s).strain = s.strain ∧
    (latchImmediate g c s).ext.secondary = s.ext.secondary ∧ (latchImmediate g c s).ext.slipM = s.ext.slipM ∧
    (latchImmediate g c s).ext.slipX = s.ext.slipX ∧ (latchImmediate g c s).motion.encCount = s.motion.encCount ∧
    (latchImmediate g c s).motion.softLower = s.motion.softLower ∧
    (latchImmediate g c s).motion.softUpper = s.motion.softUpper ∧
    (latchImmediate g c s).motion.sign = s.motion.sign ∧ (latchImmediate g c s).motion.refX = s.motion.refX ∧
    (latchImmediate g c s).motion.encA = s.motion.encA ∧ (latchImmediate g c s).motion.encB = s.motion.encB ∧
    (latchImmediate g c s).motion.encErrors = s.motion.encErrors ∧
    (latchImmediate g c s).motion.periodDue = s.motion.periodDue ∧
    (latchImmediate g c s).motion.dwell = s.motion.dwell ∧
    (latchImmediate g c s).motion.zeroRun = s.motion.zeroRun ∧
    (latchImmediate g c s).motion.blind = s.motion.blind ∧
    (latchImmediate g c s).motion.lastWord = s.motion.lastWord ∧ (latchImmediate g c s).loop.gPos = s.loop.gPos ∧
    (latchImmediate g c s).loop.gStress = s.loop.gStress ∧ (latchImmediate g c s).loop.gStrain = s.loop.gStrain ∧
    (latchImmediate g c s).loop.target = s.loop.target ∧ (latchImmediate g c s).prot.overload = s.prot.overload ∧
    (latchImmediate g c s).prot.gripCount = s.prot.gripCount ∧ (latchImmediate g c s).seq.method = s.seq.method ∧
    (latchImmediate g c s).seq.phases = s.seq.phases ∧ (latchImmediate g c s).seq.phase = s.seq.phase ∧
    (latchImmediate g c s).seq.fractured = s.seq.fractured ∧ (latchImmediate g c s).mon = s.mon ∧
    (latchImmediate g c s).router.routes = s.router.routes ∧
    (latchImmediate g c s).router.notices = s.router.notices ∧ (latchImmediate g c s).router.lost = s.router.lost ∧
    (latchImmediate g c s).ins = s.ins ∧ (latchImmediate g c s).outs = s.outs ∧
    (latchImmediate g c s).result.n = s.result.n ∧ (latchImmediate g c s).result.fracArmed = s.result.fracArmed ∧
    (latchImmediate g c s).log.interval = s.log.interval ∧ (latchImmediate g c s).log.seqNo = s.log.seqNo ∧
    (latchImmediate g c s).log.stream = s.log.stream ∧
    (latchImmediate g c s).log.firstSkipped = s.log.firstSkipped ∧
    (latchImmediate g c s).time.testTime = s.time.testTime ∧ (latchImmediate g c s).time.sec = s.time.sec ∧
    (latchImmediate g c s).time.ns = s.time.ns ∧ (latchImmediate g c s).time.frac = s.time.frac ∧
    (latchImmediate g c s).time.step = s.time.step ∧ (latchImmediate g c s).time.trim = s.time.trim ∧
    (latchImmediate g c s).time.crystal = s.time.crystal ∧ (latchImmediate g c s).time.msSeen = s.time.msSeen ∧
    (latchImmediate g c s).host = s.host ∧ (latchImmediate g c s).store = s.store ∧
    (latchImmediate g c s).free = s.free := by
  simp [latchImmediate]

@[simp] theorem testOvertravel_frame (s : State) :
    (testOvertravel s).pending = s.pending ∧ (testOvertravel s).links = s.links ∧
    (testOvertravel s).force = s.force ∧ (testOvertravel s).strain = s.strain ∧
    (testOvertravel s).ext.secondary = s.ext.secondary ∧ (testOvertravel s).ext.slipM = s.ext.slipM ∧
    (testOvertravel s).ext.slipX = s.ext.slipX ∧ (testOvertravel s).motion.encCount = s.motion.encCount ∧
    (testOvertravel s).motion.softLower = s.motion.softLower ∧
    (testOvertravel s).motion.softUpper = s.motion.softUpper ∧ (testOvertravel s).motion.sign = s.motion.sign ∧
    (testOvertravel s).motion.refX = s.motion.refX ∧ (testOvertravel s).motion.encA = s.motion.encA ∧
    (testOvertravel s).motion.encB = s.motion.encB ∧ (testOvertravel s).motion.encErrors = s.motion.encErrors ∧
    (testOvertravel s).motion.periodDue = s.motion.periodDue ∧ (testOvertravel s).motion.dwell = s.motion.dwell ∧
    (testOvertravel s).motion.zeroRun = s.motion.zeroRun ∧ (testOvertravel s).motion.blind = s.motion.blind ∧
    (testOvertravel s).motion.lastWord = s.motion.lastWord ∧ (testOvertravel s).loop.gPos = s.loop.gPos ∧
    (testOvertravel s).loop.gStress = s.loop.gStress ∧ (testOvertravel s).loop.gStrain = s.loop.gStrain ∧
    (testOvertravel s).loop.target = s.loop.target ∧ (testOvertravel s).prot.overload = s.prot.overload ∧
    (testOvertravel s).prot.gripCount = s.prot.gripCount ∧ (testOvertravel s).seq.method = s.seq.method ∧
    (testOvertravel s).seq.phases = s.seq.phases ∧ (testOvertravel s).seq.phase = s.seq.phase ∧
    (testOvertravel s).seq.fractured = s.seq.fractured ∧ (testOvertravel s).mon = s.mon ∧
    (testOvertravel s).router.routes = s.router.routes ∧ (testOvertravel s).router.notices = s.router.notices ∧
    (testOvertravel s).router.lost = s.router.lost ∧ (testOvertravel s).ins = s.ins ∧
    (testOvertravel s).outs = s.outs ∧ (testOvertravel s).result.n = s.result.n ∧
    (testOvertravel s).result.fracArmed = s.result.fracArmed ∧ (testOvertravel s).log.interval = s.log.interval ∧
    (testOvertravel s).log.seqNo = s.log.seqNo ∧ (testOvertravel s).log.stream = s.log.stream ∧
    (testOvertravel s).log.firstSkipped = s.log.firstSkipped ∧ (testOvertravel s).time.testTime = s.time.testTime ∧
    (testOvertravel s).time.sec = s.time.sec ∧ (testOvertravel s).time.ns = s.time.ns ∧
    (testOvertravel s).time.frac = s.time.frac ∧ (testOvertravel s).time.step = s.time.step ∧
    (testOvertravel s).time.trim = s.time.trim ∧ (testOvertravel s).time.crystal = s.time.crystal ∧
    (testOvertravel s).time.msSeen = s.time.msSeen ∧ (testOvertravel s).host = s.host ∧
    (testOvertravel s).store = s.store ∧ (testOvertravel s).free = s.free := by
  simp only [testOvertravel]; (repeat' split) <;> simp

@[simp] theorem estopOpened_frame (s : State) :
    (estopOpened s).pending = s.pending ∧ (estopOpened s).links = s.links ∧ (estopOpened s).force = s.force ∧
    (estopOpened s).strain = s.strain ∧ (estopOpened s).ext.secondary = s.ext.secondary ∧
    (estopOpened s).ext.slipM = s.ext.slipM ∧ (estopOpened s).ext.slipX = s.ext.slipX ∧
    (estopOpened s).motion.encCount = s.motion.encCount ∧ (estopOpened s).motion.softLower = s.motion.softLower ∧
    (estopOpened s).motion.softUpper = s.motion.softUpper ∧ (estopOpened s).motion.sign = s.motion.sign ∧
    (estopOpened s).motion.refX = s.motion.refX ∧ (estopOpened s).motion.encA = s.motion.encA ∧
    (estopOpened s).motion.encB = s.motion.encB ∧ (estopOpened s).motion.encErrors = s.motion.encErrors ∧
    (estopOpened s).motion.periodDue = s.motion.periodDue ∧ (estopOpened s).motion.dwell = s.motion.dwell ∧
    (estopOpened s).motion.zeroRun = s.motion.zeroRun ∧ (estopOpened s).motion.blind = s.motion.blind ∧
    (estopOpened s).motion.lastWord = s.motion.lastWord ∧ (estopOpened s).loop.gPos = s.loop.gPos ∧
    (estopOpened s).loop.gStress = s.loop.gStress ∧ (estopOpened s).loop.gStrain = s.loop.gStrain ∧
    (estopOpened s).loop.target = s.loop.target ∧ (estopOpened s).prot.overload = s.prot.overload ∧
    (estopOpened s).prot.gripCount = s.prot.gripCount ∧ (estopOpened s).seq.method = s.seq.method ∧
    (estopOpened s).seq.phases = s.seq.phases ∧ (estopOpened s).seq.phase = s.seq.phase ∧
    (estopOpened s).seq.fractured = s.seq.fractured ∧ (estopOpened s).mon = s.mon ∧
    (estopOpened s).router.routes = s.router.routes ∧ (estopOpened s).router.notices = s.router.notices ∧
    (estopOpened s).router.lost = s.router.lost ∧ (estopOpened s).ins = s.ins ∧ (estopOpened s).outs = s.outs ∧
    (estopOpened s).result.n = s.result.n ∧ (estopOpened s).result.fracArmed = s.result.fracArmed ∧
    (estopOpened s).log.interval = s.log.interval ∧ (estopOpened s).log.seqNo = s.log.seqNo ∧
    (estopOpened s).log.stream = s.log.stream ∧ (estopOpened s).log.firstSkipped = s.log.firstSkipped ∧
    (estopOpened s).time.testTime = s.time.testTime ∧ (estopOpened s).time.sec = s.time.sec ∧
    (estopOpened s).time.ns = s.time.ns ∧ (estopOpened s).time.frac = s.time.frac ∧
    (estopOpened s).time.step = s.time.step ∧ (estopOpened s).time.trim = s.time.trim ∧
    (estopOpened s).time.crystal = s.time.crystal ∧ (estopOpened s).time.msSeen = s.time.msSeen ∧
    (estopOpened s).host = s.host ∧ (estopOpened s).store = s.store ∧ (estopOpened s).free = s.free := by
  simp [estopOpened]

@[simp] theorem gripsOpened_frame (s : State) :
    (gripsOpened s).pending = s.pending ∧ (gripsOpened s).links = s.links ∧ (gripsOpened s).force = s.force ∧
    (gripsOpened s).strain = s.strain ∧ (gripsOpened s).ext = s.ext ∧ (gripsOpened s).motion = s.motion ∧
    (gripsOpened s).loop.gPos = s.loop.gPos ∧ (gripsOpened s).loop.gStress = s.loop.gStress ∧
    (gripsOpened s).loop.gStrain = s.loop.gStrain ∧ (gripsOpened s).prot.latched = s.prot.latched ∧
    (gripsOpened s).prot.overload = s.prot.overload ∧ (gripsOpened s).prot.blanking = s.prot.blanking ∧
    (gripsOpened s).prot.episode = s.prot.episode ∧ (gripsOpened s).prot.offTime = s.prot.offTime ∧
    (gripsOpened s).seq.method = s.seq.method ∧ (gripsOpened s).seq.phases = s.seq.phases ∧
    (gripsOpened s).seq.phase = s.seq.phase ∧ (gripsOpened s).seq.armedTrigger = s.seq.armedTrigger ∧
    (gripsOpened s).seq.fractured = s.seq.fractured ∧ (gripsOpened s).seq.endReason = s.seq.endReason ∧
    (gripsOpened s).seq.abortCause = s.seq.abortCause ∧ (gripsOpened s).seq.pendingExit = s.seq.pendingExit ∧
    (gripsOpened s).seq.phaseStart = s.seq.phaseStart ∧ (gripsOpened s).mon = s.mon ∧
    (gripsOpened s).router.routes = s.router.routes ∧ (gripsOpened s).router.notices = s.router.notices ∧
    (gripsOpened s).router.lost = s.router.lost ∧ (gripsOpened s).ins = s.ins ∧ (gripsOpened s).outs = s.outs ∧
    (gripsOpened s).result = s.result ∧ (gripsOpened s).log = s.log ∧ (gripsOpened s).time = s.time ∧
    (gripsOpened s).host = s.host ∧ (gripsOpened s).store = s.store ∧ (gripsOpened s).free = s.free := by
  simp only [gripsOpened]; (repeat' split) <;> simp

@[simp] theorem latchDriveFault_frame (s : State) :
    (latchDriveFault s).pending = s.pending ∧ (latchDriveFault s).links = s.links ∧
    (latchDriveFault s).force = s.force ∧ (latchDriveFault s).strain = s.strain ∧
    (latchDriveFault s).ext.secondary = s.ext.secondary ∧ (latchDriveFault s).ext.slipM = s.ext.slipM ∧
    (latchDriveFault s).ext.slipX = s.ext.slipX ∧ (latchDriveFault s).motion.encCount = s.motion.encCount ∧
    (latchDriveFault s).motion.softLower = s.motion.softLower ∧
    (latchDriveFault s).motion.softUpper = s.motion.softUpper ∧ (latchDriveFault s).motion.sign = s.motion.sign ∧
    (latchDriveFault s).motion.refX = s.motion.refX ∧ (latchDriveFault s).motion.encA = s.motion.encA ∧
    (latchDriveFault s).motion.encB = s.motion.encB ∧ (latchDriveFault s).motion.encErrors = s.motion.encErrors ∧
    (latchDriveFault s).motion.periodDue = s.motion.periodDue ∧ (latchDriveFault s).motion.dwell = s.motion.dwell ∧
    (latchDriveFault s).motion.zeroRun = s.motion.zeroRun ∧ (latchDriveFault s).motion.blind = s.motion.blind ∧
    (latchDriveFault s).motion.lastWord = s.motion.lastWord ∧ (latchDriveFault s).loop.gPos = s.loop.gPos ∧
    (latchDriveFault s).loop.gStress = s.loop.gStress ∧ (latchDriveFault s).loop.gStrain = s.loop.gStrain ∧
    (latchDriveFault s).loop.target = s.loop.target ∧ (latchDriveFault s).prot.overload = s.prot.overload ∧
    (latchDriveFault s).prot.gripCount = s.prot.gripCount ∧ (latchDriveFault s).seq.method = s.seq.method ∧
    (latchDriveFault s).seq.phases = s.seq.phases ∧ (latchDriveFault s).seq.phase = s.seq.phase ∧
    (latchDriveFault s).seq.fractured = s.seq.fractured ∧ (latchDriveFault s).mon = s.mon ∧
    (latchDriveFault s).router.routes = s.router.routes ∧ (latchDriveFault s).router.notices = s.router.notices ∧
    (latchDriveFault s).router.lost = s.router.lost ∧ (latchDriveFault s).ins = s.ins ∧
    (latchDriveFault s).outs = s.outs ∧ (latchDriveFault s).result.n = s.result.n ∧
    (latchDriveFault s).result.fracArmed = s.result.fracArmed ∧ (latchDriveFault s).log.interval = s.log.interval ∧
    (latchDriveFault s).log.seqNo = s.log.seqNo ∧ (latchDriveFault s).log.stream = s.log.stream ∧
    (latchDriveFault s).log.firstSkipped = s.log.firstSkipped ∧
    (latchDriveFault s).time.testTime = s.time.testTime ∧ (latchDriveFault s).time.sec = s.time.sec ∧
    (latchDriveFault s).time.ns = s.time.ns ∧ (latchDriveFault s).time.frac = s.time.frac ∧
    (latchDriveFault s).time.step = s.time.step ∧ (latchDriveFault s).time.trim = s.time.trim ∧
    (latchDriveFault s).time.crystal = s.time.crystal ∧ (latchDriveFault s).time.msSeen = s.time.msSeen ∧
    (latchDriveFault s).host = s.host ∧ (latchDriveFault s).store = s.store ∧ (latchDriveFault s).free = s.free := by
  simp [latchDriveFault]

@[simp] theorem retryDrive_frame (s : State) :
    (retryDrive s).pending = s.pending ∧ (retryDrive s).links = s.links ∧ (retryDrive s).force = s.force ∧
    (retryDrive s).strain = s.strain ∧ (retryDrive s).ext = s.ext ∧ (retryDrive s).motion.queue = s.motion.queue ∧
    (retryDrive s).motion.jog = s.motion.jog ∧ (retryDrive s).motion.keepalive = s.motion.keepalive ∧
    (retryDrive s).motion.encCount = s.motion.encCount ∧ (retryDrive s).motion.softLower = s.motion.softLower ∧
    (retryDrive s).motion.softUpper = s.motion.softUpper ∧ (retryDrive s).motion.sign = s.motion.sign ∧
    (retryDrive s).motion.refX = s.motion.refX ∧ (retryDrive s).motion.encA = s.motion.encA ∧
    (retryDrive s).motion.encB = s.motion.encB ∧ (retryDrive s).motion.encErrors = s.motion.encErrors ∧
    (retryDrive s).motion.periodDue = s.motion.periodDue ∧ (retryDrive s).motion.dwell = s.motion.dwell ∧
    (retryDrive s).motion.zeroRun = s.motion.zeroRun ∧ (retryDrive s).motion.blind = s.motion.blind ∧
    (retryDrive s).motion.lastWord = s.motion.lastWord ∧ (retryDrive s).loop.gPos = s.loop.gPos ∧
    (retryDrive s).loop.gStress = s.loop.gStress ∧ (retryDrive s).loop.gStrain = s.loop.gStrain ∧
    (retryDrive s).loop.target = s.loop.target ∧ (retryDrive s).prot.latched = s.prot.latched ∧
    (retryDrive s).prot.overload = s.prot.overload ∧ (retryDrive s).prot.gripCount = s.prot.gripCount ∧
    (retryDrive s).seq = s.seq ∧ (retryDrive s).mon = s.mon ∧ (retryDrive s).router.routes = s.router.routes ∧
    (retryDrive s).router.notices = s.router.notices ∧ (retryDrive s).router.lost = s.router.lost ∧
    (retryDrive s).ins = s.ins ∧ (retryDrive s).outs = s.outs ∧ (retryDrive s).result = s.result ∧
    (retryDrive s).log = s.log ∧ (retryDrive s).time = s.time ∧ (retryDrive s).host = s.host ∧
    (retryDrive s).store = s.store ∧ (retryDrive s).free = s.free := by
  simp [retryDrive]

@[simp] theorem confirmDriveFault_frame (s : State) :
    (confirmDriveFault s).pending = s.pending ∧ (confirmDriveFault s).links = s.links ∧
    (confirmDriveFault s).force = s.force ∧ (confirmDriveFault s).strain = s.strain ∧
    (confirmDriveFault s).ext.secondary = s.ext.secondary ∧ (confirmDriveFault s).ext.slipM = s.ext.slipM ∧
    (confirmDriveFault s).ext.slipX = s.ext.slipX ∧ (confirmDriveFault s).motion.encCount = s.motion.encCount ∧
    (confirmDriveFault s).motion.softLower = s.motion.softLower ∧
    (confirmDriveFault s).motion.softUpper = s.motion.softUpper ∧
    (confirmDriveFault s).motion.sign = s.motion.sign ∧ (confirmDriveFault s).motion.refX = s.motion.refX ∧
    (confirmDriveFault s).motion.encA = s.motion.encA ∧ (confirmDriveFault s).motion.encB = s.motion.encB ∧
    (confirmDriveFault s).motion.encErrors = s.motion.encErrors ∧
    (confirmDriveFault s).motion.periodDue = s.motion.periodDue ∧
    (confirmDriveFault s).motion.dwell = s.motion.dwell ∧ (confirmDriveFault s).motion.zeroRun = s.motion.zeroRun ∧
    (confirmDriveFault s).motion.blind = s.motion.blind ∧
    (confirmDriveFault s).motion.lastWord = s.motion.lastWord ∧ (confirmDriveFault s).loop.gPos = s.loop.gPos ∧
    (confirmDriveFault s).loop.gStress = s.loop.gStress ∧ (confirmDriveFault s).loop.gStrain = s.loop.gStrain ∧
    (confirmDriveFault s).loop.target = s.loop.target ∧ (confirmDriveFault s).prot.overload = s.prot.overload ∧
    (confirmDriveFault s).prot.gripCount = s.prot.gripCount ∧ (confirmDriveFault s).seq.method = s.seq.method ∧
    (confirmDriveFault s).seq.phases = s.seq.phases ∧ (confirmDriveFault s).seq.phase = s.seq.phase ∧
    (confirmDriveFault s).seq.fractured = s.seq.fractured ∧ (confirmDriveFault s).mon = s.mon ∧
    (confirmDriveFault s).router.routes = s.router.routes ∧
    (confirmDriveFault s).router.notices = s.router.notices ∧ (confirmDriveFault s).router.lost = s.router.lost ∧
    (confirmDriveFault s).ins = s.ins ∧ (confirmDriveFault s).outs = s.outs ∧
    (confirmDriveFault s).result.n = s.result.n ∧ (confirmDriveFault s).result.fracArmed = s.result.fracArmed ∧
    (confirmDriveFault s).log.interval = s.log.interval ∧ (confirmDriveFault s).log.seqNo = s.log.seqNo ∧
    (confirmDriveFault s).log.stream = s.log.stream ∧ (confirmDriveFault s).log.firstSkipped = s.log.firstSkipped ∧
    (confirmDriveFault s).time.testTime = s.time.testTime ∧ (confirmDriveFault s).time.sec = s.time.sec ∧
    (confirmDriveFault s).time.ns = s.time.ns ∧ (confirmDriveFault s).time.frac = s.time.frac ∧
    (confirmDriveFault s).time.step = s.time.step ∧ (confirmDriveFault s).time.trim = s.time.trim ∧
    (confirmDriveFault s).time.crystal = s.time.crystal ∧ (confirmDriveFault s).time.msSeen = s.time.msSeen ∧
    (confirmDriveFault s).host = s.host ∧ (confirmDriveFault s).store = s.store ∧
    (confirmDriveFault s).free = s.free := by
  simp only [confirmDriveFault]; (repeat' split) <;> simp

@[simp] theorem doBlankingTimerExpiry_frame (s : State) :
    (doBlankingTimerExpiry s).pending = s.pending ∧ (doBlankingTimerExpiry s).links = s.links ∧
    (doBlankingTimerExpiry s).force = s.force ∧ (doBlankingTimerExpiry s).strain = s.strain ∧
    (doBlankingTimerExpiry s).ext.secondary = s.ext.secondary ∧ (doBlankingTimerExpiry s).ext.slipM = s.ext.slipM ∧
    (doBlankingTimerExpiry s).ext.slipX = s.ext.slipX ∧
    (doBlankingTimerExpiry s).motion.encCount = s.motion.encCount ∧
    (doBlankingTimerExpiry s).motion.softLower = s.motion.softLower ∧
    (doBlankingTimerExpiry s).motion.softUpper = s.motion.softUpper ∧
    (doBlankingTimerExpiry s).motion.sign = s.motion.sign ∧ (doBlankingTimerExpiry s).motion.refX = s.motion.refX ∧
    (doBlankingTimerExpiry s).motion.encA = s.motion.encA ∧ (doBlankingTimerExpiry s).motion.encB = s.motion.encB ∧
    (doBlankingTimerExpiry s).motion.encErrors = s.motion.encErrors ∧
    (doBlankingTimerExpiry s).motion.periodDue = s.motion.periodDue ∧
    (doBlankingTimerExpiry s).motion.dwell = s.motion.dwell ∧
    (doBlankingTimerExpiry s).motion.zeroRun = s.motion.zeroRun ∧
    (doBlankingTimerExpiry s).motion.blind = s.motion.blind ∧
    (doBlankingTimerExpiry s).motion.lastWord = s.motion.lastWord ∧
    (doBlankingTimerExpiry s).loop.gPos = s.loop.gPos ∧ (doBlankingTimerExpiry s).loop.gStress = s.loop.gStress ∧
    (doBlankingTimerExpiry s).loop.gStrain = s.loop.gStrain ∧
    (doBlankingTimerExpiry s).prot.overload = s.prot.overload ∧
    (doBlankingTimerExpiry s).prot.gripCount = s.prot.gripCount ∧
    (doBlankingTimerExpiry s).seq.method = s.seq.method ∧ (doBlankingTimerExpiry s).seq.phases = s.seq.phases ∧
    (doBlankingTimerExpiry s).seq.phase = s.seq.phase ∧ (doBlankingTimerExpiry s).seq.fractured = s.seq.fractured ∧
    (doBlankingTimerExpiry s).mon = s.mon ∧ (doBlankingTimerExpiry s).router.routes = s.router.routes ∧
    (doBlankingTimerExpiry s).ins = s.ins ∧ (doBlankingTimerExpiry s).result.n = s.result.n ∧
    (doBlankingTimerExpiry s).result.fracArmed = s.result.fracArmed ∧
    (doBlankingTimerExpiry s).log.interval = s.log.interval ∧ (doBlankingTimerExpiry s).log.seqNo = s.log.seqNo ∧
    (doBlankingTimerExpiry s).log.stream = s.log.stream ∧
    (doBlankingTimerExpiry s).log.firstSkipped = s.log.firstSkipped ∧
    (doBlankingTimerExpiry s).time.testTime = s.time.testTime ∧ (doBlankingTimerExpiry s).time.sec = s.time.sec ∧
    (doBlankingTimerExpiry s).time.ns = s.time.ns ∧ (doBlankingTimerExpiry s).time.frac = s.time.frac ∧
    (doBlankingTimerExpiry s).time.step = s.time.step ∧ (doBlankingTimerExpiry s).time.trim = s.time.trim ∧
    (doBlankingTimerExpiry s).time.crystal = s.time.crystal ∧
    (doBlankingTimerExpiry s).time.msSeen = s.time.msSeen ∧ (doBlankingTimerExpiry s).host.rx = s.host.rx ∧
    (doBlankingTimerExpiry s).host.replies = s.host.replies ∧
    (doBlankingTimerExpiry s).host.goodFrames = s.host.goodFrames ∧
    (doBlankingTimerExpiry s).host.crcErrors = s.host.crcErrors ∧
    (doBlankingTimerExpiry s).host.framingErrors = s.host.framingErrors ∧
    (doBlankingTimerExpiry s).host.overruns = s.host.overruns ∧
    (doBlankingTimerExpiry s).host.framesSent = s.host.framesSent ∧
    (doBlankingTimerExpiry s).host.resetPending = s.host.resetPending ∧ (doBlankingTimerExpiry s).store = s.store ∧
    (doBlankingTimerExpiry s).free = s.free := by
  simp only [doBlankingTimerExpiry]; (repeat' split) <;> simp

@[simp] theorem resumeDrive_frame (s : State) :
    (resumeDrive s).pending = s.pending ∧ (resumeDrive s).links = s.links ∧ (resumeDrive s).force = s.force ∧
    (resumeDrive s).strain = s.strain ∧ (resumeDrive s).ext = s.ext ∧
    (resumeDrive s).motion.queue = s.motion.queue ∧ (resumeDrive s).motion.jog = s.motion.jog ∧
    (resumeDrive s).motion.keepalive = s.motion.keepalive ∧ (resumeDrive s).motion.encCount = s.motion.encCount ∧
    (resumeDrive s).motion.softLower = s.motion.softLower ∧ (resumeDrive s).motion.softUpper = s.motion.softUpper ∧
    (resumeDrive s).motion.sign = s.motion.sign ∧ (resumeDrive s).motion.encA = s.motion.encA ∧
    (resumeDrive s).motion.encB = s.motion.encB ∧ (resumeDrive s).motion.encErrors = s.motion.encErrors ∧
    (resumeDrive s).motion.periodDue = s.motion.periodDue ∧ (resumeDrive s).motion.dwell = s.motion.dwell ∧
    (resumeDrive s).motion.zeroRun = s.motion.zeroRun ∧ (resumeDrive s).motion.blind = s.motion.blind ∧
    (resumeDrive s).motion.lastWord = s.motion.lastWord ∧ (resumeDrive s).loop.gPos = s.loop.gPos ∧
    (resumeDrive s).loop.gStress = s.loop.gStress ∧ (resumeDrive s).loop.gStrain = s.loop.gStrain ∧
    (resumeDrive s).loop.target = s.loop.target ∧ (resumeDrive s).prot.latched = s.prot.latched ∧
    (resumeDrive s).prot.overload = s.prot.overload ∧ (resumeDrive s).prot.gripCount = s.prot.gripCount ∧
    (resumeDrive s).seq = s.seq ∧ (resumeDrive s).mon = s.mon ∧ (resumeDrive s).router = s.router ∧
    (resumeDrive s).ins = s.ins ∧ (resumeDrive s).outs = s.outs ∧ (resumeDrive s).result = s.result ∧
    (resumeDrive s).log = s.log ∧ (resumeDrive s).time = s.time ∧ (resumeDrive s).host = s.host ∧
    (resumeDrive s).store = s.store ∧ (resumeDrive s).free = s.free := by
  simp only [resumeDrive]; (repeat' split) <;> simp

@[simp] theorem doOffTimeExpiry_frame (s : State) :
    (doOffTimeExpiry s).pending = s.pending ∧ (doOffTimeExpiry s).links = s.links ∧
    (doOffTimeExpiry s).force = s.force ∧ (doOffTimeExpiry s).strain = s.strain ∧
    (doOffTimeExpiry s).ext.primary = s.ext.primary ∧ (doOffTimeExpiry s).ext.secondary = s.ext.secondary ∧
    (doOffTimeExpiry s).ext.removal = s.ext.removal ∧ (doOffTimeExpiry s).ext.slipM = s.ext.slipM ∧
    (doOffTimeExpiry s).ext.slipX = s.ext.slipX ∧ (doOffTimeExpiry s).motion.encCount = s.motion.encCount ∧
    (doOffTimeExpiry s).motion.softLower = s.motion.softLower ∧
    (doOffTimeExpiry s).motion.softUpper = s.motion.softUpper ∧ (doOffTimeExpiry s).motion.sign = s.motion.sign ∧
    (doOffTimeExpiry s).motion.encA = s.motion.encA ∧ (doOffTimeExpiry s).motion.encB = s.motion.encB ∧
    (doOffTimeExpiry s).motion.encErrors = s.motion.encErrors ∧
    (doOffTimeExpiry s).motion.periodDue = s.motion.periodDue ∧ (doOffTimeExpiry s).motion.dwell = s.motion.dwell ∧
    (doOffTimeExpiry s).motion.zeroRun = s.motion.zeroRun ∧ (doOffTimeExpiry s).motion.blind = s.motion.blind ∧
    (doOffTimeExpiry s).motion.lastWord = s.motion.lastWord ∧ (doOffTimeExpiry s).loop.gPos = s.loop.gPos ∧
    (doOffTimeExpiry s).loop.gStress = s.loop.gStress ∧ (doOffTimeExpiry s).loop.gStrain = s.loop.gStrain ∧
    (doOffTimeExpiry s).prot.latched = s.prot.latched ∧ (doOffTimeExpiry s).prot.overload = s.prot.overload ∧
    (doOffTimeExpiry s).prot.gripCount = s.prot.gripCount ∧ (doOffTimeExpiry s).seq.method = s.seq.method ∧
    (doOffTimeExpiry s).seq.phases = s.seq.phases ∧ (doOffTimeExpiry s).seq.phase = s.seq.phase ∧
    (doOffTimeExpiry s).seq.armedTrigger = s.seq.armedTrigger ∧
    (doOffTimeExpiry s).seq.fractured = s.seq.fractured ∧ (doOffTimeExpiry s).seq.endReason = s.seq.endReason ∧
    (doOffTimeExpiry s).seq.abortCause = s.seq.abortCause ∧
    (doOffTimeExpiry s).seq.pendingExit = s.seq.pendingExit ∧
    (doOffTimeExpiry s).seq.phaseStart = s.seq.phaseStart ∧ (doOffTimeExpiry s).mon = s.mon ∧
    (doOffTimeExpiry s).router.routes = s.router.routes ∧ (doOffTimeExpiry s).ins = s.ins ∧
    (doOffTimeExpiry s).result.n = s.result.n ∧ (doOffTimeExpiry s).result.fracArmed = s.result.fracArmed ∧
    (doOffTimeExpiry s).log.interval = s.log.interval ∧ (doOffTimeExpiry s).log.seqNo = s.log.seqNo ∧
    (doOffTimeExpiry s).log.stream = s.log.stream ∧ (doOffTimeExpiry s).log.firstSkipped = s.log.firstSkipped ∧
    (doOffTimeExpiry s).time.testTime = s.time.testTime ∧ (doOffTimeExpiry s).time.sec = s.time.sec ∧
    (doOffTimeExpiry s).time.ns = s.time.ns ∧ (doOffTimeExpiry s).time.frac = s.time.frac ∧
    (doOffTimeExpiry s).time.step = s.time.step ∧ (doOffTimeExpiry s).time.trim = s.time.trim ∧
    (doOffTimeExpiry s).time.crystal = s.time.crystal ∧ (doOffTimeExpiry s).time.msSeen = s.time.msSeen ∧
    (doOffTimeExpiry s).host.rx = s.host.rx ∧ (doOffTimeExpiry s).host.replies = s.host.replies ∧
    (doOffTimeExpiry s).host.goodFrames = s.host.goodFrames ∧
    (doOffTimeExpiry s).host.crcErrors = s.host.crcErrors ∧
    (doOffTimeExpiry s).host.framingErrors = s.host.framingErrors ∧
    (doOffTimeExpiry s).host.overruns = s.host.overruns ∧ (doOffTimeExpiry s).host.framesSent = s.host.framesSent ∧
    (doOffTimeExpiry s).host.resetPending = s.host.resetPending ∧ (doOffTimeExpiry s).store = s.store ∧
    (doOffTimeExpiry s).free = s.free := by
  simp only [doOffTimeExpiry]; (repeat' split) <;> simp

@[simp] theorem doGripSettleTick_frame (s : State) :
    (doGripSettleTick s).pending = s.pending ∧ (doGripSettleTick s).links = s.links ∧
    (doGripSettleTick s).force = s.force ∧ (doGripSettleTick s).strain = s.strain ∧
    (doGripSettleTick s).ext = s.ext ∧ (doGripSettleTick s).motion = s.motion ∧ (doGripSettleTick s).loop = s.loop ∧
    (doGripSettleTick s).prot.latched = s.prot.latched ∧ (doGripSettleTick s).prot.overload = s.prot.overload ∧
    (doGripSettleTick s).prot.blanking = s.prot.blanking ∧ (doGripSettleTick s).prot.episode = s.prot.episode ∧
    (doGripSettleTick s).prot.offTime = s.prot.offTime ∧ (doGripSettleTick s).seq = s.seq ∧
    (doGripSettleTick s).mon = s.mon ∧ (doGripSettleTick s).router = s.router ∧ (doGripSettleTick s).ins = s.ins ∧
    (doGripSettleTick s).outs = s.outs ∧ (doGripSettleTick s).result = s.result ∧ (doGripSettleTick s).log = s.log ∧
    (doGripSettleTick s).time = s.time ∧ (doGripSettleTick s).host = s.host ∧ (doGripSettleTick s).store = s.store ∧
    (doGripSettleTick s).free = s.free := by
  simp only [doGripSettleTick]; (repeat' split) <;> simp

/-! ## MotionCmds -/

@[simp] theorem meetSoftLimit_frame (code : Nat) (s : State) :
    (meetSoftLimit code s).pending = s.pending ∧ (meetSoftLimit code s).links = s.links ∧
    (meetSoftLimit code s).force = s.force ∧ (meetSoftLimit code s).strain = s.strain ∧
    (meetSoftLimit code s).ext.secondary = s.ext.secondary ∧ (meetSoftLimit code s).ext.slipM = s.ext.slipM ∧
    (meetSoftLimit code s).ext.slipX = s.ext.slipX ∧ (meetSoftLimit code s).motion.encCount = s.motion.encCount ∧
    (meetSoftLimit code s).motion.softLower = s.motion.softLower ∧
    (meetSoftLimit code s).motion.softUpper = s.motion.softUpper ∧
    (meetSoftLimit code s).motion.sign = s.motion.sign ∧ (meetSoftLimit code s).motion.refX = s.motion.refX ∧
    (meetSoftLimit code s).motion.encA = s.motion.encA ∧ (meetSoftLimit code s).motion.encB = s.motion.encB ∧
    (meetSoftLimit code s).motion.encErrors = s.motion.encErrors ∧
    (meetSoftLimit code s).motion.periodDue = s.motion.periodDue ∧
    (meetSoftLimit code s).motion.dwell = s.motion.dwell ∧
    (meetSoftLimit code s).motion.zeroRun = s.motion.zeroRun ∧
    (meetSoftLimit code s).motion.blind = s.motion.blind ∧
    (meetSoftLimit code s).motion.lastWord = s.motion.lastWord ∧ (meetSoftLimit code s).loop.gPos = s.loop.gPos ∧
    (meetSoftLimit code s).loop.gStress = s.loop.gStress ∧ (meetSoftLimit code s).loop.gStrain = s.loop.gStrain ∧
    (meetSoftLimit code s).loop.target = s.loop.target ∧ (meetSoftLimit code s).prot.latched = s.prot.latched ∧
    (meetSoftLimit code s).prot.overload = s.prot.overload ∧
    (meetSoftLimit code s).prot.gripCount = s.prot.gripCount ∧ (meetSoftLimit code s).seq.method = s.seq.method ∧
    (meetSoftLimit code s).seq.phases = s.seq.phases ∧ (meetSoftLimit code s).seq.phase = s.seq.phase ∧
    (meetSoftLimit code s).seq.fractured = s.seq.fractured ∧ (meetSoftLimit code s).mon = s.mon ∧
    (meetSoftLimit code s).router.routes = s.router.routes ∧
    (meetSoftLimit code s).router.notices = s.router.notices ∧ (meetSoftLimit code s).router.lost = s.router.lost ∧
    (meetSoftLimit code s).ins = s.ins ∧ (meetSoftLimit code s).outs = s.outs ∧
    (meetSoftLimit code s).result.n = s.result.n ∧ (meetSoftLimit code s).result.fracArmed = s.result.fracArmed ∧
    (meetSoftLimit code s).log.interval = s.log.interval ∧ (meetSoftLimit code s).log.seqNo = s.log.seqNo ∧
    (meetSoftLimit code s).log.stream = s.log.stream ∧
    (meetSoftLimit code s).log.firstSkipped = s.log.firstSkipped ∧
    (meetSoftLimit code s).time.testTime = s.time.testTime ∧ (meetSoftLimit code s).time.sec = s.time.sec ∧
    (meetSoftLimit code s).time.ns = s.time.ns ∧ (meetSoftLimit code s).time.frac = s.time.frac ∧
    (meetSoftLimit code s).time.step = s.time.step ∧ (meetSoftLimit code s).time.trim = s.time.trim ∧
    (meetSoftLimit code s).time.crystal = s.time.crystal ∧ (meetSoftLimit code s).time.msSeen = s.time.msSeen ∧
    (meetSoftLimit code s).host = s.host ∧ (meetSoftLimit code s).store = s.store ∧
    (meetSoftLimit code s).free = s.free := by
  simp only [meetSoftLimit]; (repeat' split) <;> simp

@[simp] theorem softLimitStep_frame (s : State) :
    (softLimitStep s).pending = s.pending ∧ (softLimitStep s).links = s.links ∧ (softLimitStep s).force = s.force ∧
    (softLimitStep s).strain = s.strain ∧ (softLimitStep s).ext.secondary = s.ext.secondary ∧
    (softLimitStep s).ext.slipM = s.ext.slipM ∧ (softLimitStep s).ext.slipX = s.ext.slipX ∧
    (softLimitStep s).motion.encCount = s.motion.encCount ∧
    (softLimitStep s).motion.softLower = s.motion.softLower ∧
    (softLimitStep s).motion.softUpper = s.motion.softUpper ∧ (softLimitStep s).motion.sign = s.motion.sign ∧
    (softLimitStep s).motion.refX = s.motion.refX ∧ (softLimitStep s).motion.encA = s.motion.encA ∧
    (softLimitStep s).motion.encB = s.motion.encB ∧ (softLimitStep s).motion.encErrors = s.motion.encErrors ∧
    (softLimitStep s).motion.periodDue = s.motion.periodDue ∧ (softLimitStep s).motion.dwell = s.motion.dwell ∧
    (softLimitStep s).motion.zeroRun = s.motion.zeroRun ∧ (softLimitStep s).motion.blind = s.motion.blind ∧
    (softLimitStep s).motion.lastWord = s.motion.lastWord ∧ (softLimitStep s).loop.gPos = s.loop.gPos ∧
    (softLimitStep s).loop.gStress = s.loop.gStress ∧ (softLimitStep s).loop.gStrain = s.loop.gStrain ∧
    (softLimitStep s).loop.target = s.loop.target ∧ (softLimitStep s).prot.latched = s.prot.latched ∧
    (softLimitStep s).prot.overload = s.prot.overload ∧ (softLimitStep s).prot.gripCount = s.prot.gripCount ∧
    (softLimitStep s).seq.method = s.seq.method ∧ (softLimitStep s).seq.phases = s.seq.phases ∧
    (softLimitStep s).seq.phase = s.seq.phase ∧ (softLimitStep s).seq.fractured = s.seq.fractured ∧
    (softLimitStep s).mon = s.mon ∧ (softLimitStep s).router.routes = s.router.routes ∧
    (softLimitStep s).router.notices = s.router.notices ∧ (softLimitStep s).router.lost = s.router.lost ∧
    (softLimitStep s).ins = s.ins ∧ (softLimitStep s).outs = s.outs ∧ (softLimitStep s).result.n = s.result.n ∧
    (softLimitStep s).result.fracArmed = s.result.fracArmed ∧ (softLimitStep s).log.interval = s.log.interval ∧
    (softLimitStep s).log.seqNo = s.log.seqNo ∧ (softLimitStep s).log.stream = s.log.stream ∧
    (softLimitStep s).log.firstSkipped = s.log.firstSkipped ∧ (softLimitStep s).time.testTime = s.time.testTime ∧
    (softLimitStep s).time.sec = s.time.sec ∧ (softLimitStep s).time.ns = s.time.ns ∧
    (softLimitStep s).time.frac = s.time.frac ∧ (softLimitStep s).time.step = s.time.step ∧
    (softLimitStep s).time.trim = s.time.trim ∧ (softLimitStep s).time.crystal = s.time.crystal ∧
    (softLimitStep s).time.msSeen = s.time.msSeen ∧ (softLimitStep s).host = s.host ∧
    (softLimitStep s).store = s.store ∧ (softLimitStep s).free = s.free := by
  simp only [softLimitStep]; (repeat' split) <;> simp

@[simp] theorem runLoop_frame (s : State) :
    (runLoop s).pending = s.pending ∧ (runLoop s).links = s.links ∧ (runLoop s).force = s.force ∧
    (runLoop s).strain = s.strain ∧ (runLoop s).ext = s.ext ∧ (runLoop s).motion = s.motion ∧
    (runLoop s).loop.gPos = s.loop.gPos ∧ (runLoop s).loop.gStress = s.loop.gStress ∧
    (runLoop s).loop.gStrain = s.loop.gStrain ∧ (runLoop s).loop.mode = s.loop.mode ∧ (runLoop s).prot = s.prot ∧
    (runLoop s).seq = s.seq ∧ (runLoop s).mon = s.mon ∧ (runLoop s).router = s.router ∧ (runLoop s).ins = s.ins ∧
    (runLoop s).outs = s.outs ∧ (runLoop s).result = s.result ∧ (runLoop s).log = s.log ∧
    (runLoop s).time = s.time ∧ (runLoop s).host = s.host ∧ (runLoop s).store = s.store ∧ (runLoop s).free = s.free := by
  simp only [runLoop]; (repeat' split) <;> simp

@[simp] theorem sendWord_frame (c : Int) (withheld : Bool) (v : Int) (s : State) :
    (sendWord c withheld v s).pending = s.pending ∧ (sendWord c withheld v s).links = s.links ∧
    (sendWord c withheld v s).force = s.force ∧ (sendWord c withheld v s).strain = s.strain ∧
    (sendWord c withheld v s).ext = s.ext ∧ (sendWord c withheld v s).motion.state = s.motion.state ∧
    (sendWord c withheld v s).motion.queue = s.motion.queue ∧
    (sendWord c withheld v s).motion.driveEn = s.motion.driveEn ∧
    (sendWord c withheld v s).motion.jog = s.motion.jog ∧
    (sendWord c withheld v s).motion.keepalive = s.motion.keepalive ∧
    (sendWord c withheld v s).motion.encCount = s.motion.encCount ∧
    (sendWord c withheld v s).motion.softLower = s.motion.softLower ∧
    (sendWord c withheld v s).motion.softUpper = s.motion.softUpper ∧
    (sendWord c withheld v s).motion.refX = s.motion.refX ∧ (sendWord c withheld v s).motion.encA = s.motion.encA ∧
    (sendWord c withheld v s).motion.encB = s.motion.encB ∧
    (sendWord c withheld v s).motion.encErrors = s.motion.encErrors ∧
    (sendWord c withheld v s).motion.dest = s.motion.dest ∧
    (sendWord c withheld v s).motion.blind = s.motion.blind ∧
    (sendWord c withheld v s).motion.ceiling = s.motion.ceiling ∧ (sendWord c withheld v s).loop = s.loop ∧
    (sendWord c withheld v s).prot = s.prot ∧ (sendWord c withheld v s).seq = s.seq ∧
    (sendWord c withheld v s).mon = s.mon ∧ (sendWord c withheld v s).router.routes = s.router.routes ∧
    (sendWord c withheld v s).router.notices = s.router.notices ∧
    (sendWord c withheld v s).router.lost = s.router.lost ∧ (sendWord c withheld v s).ins = s.ins ∧
    (sendWord c withheld v s).outs = s.outs ∧ (sendWord c withheld v s).result = s.result ∧
    (sendWord c withheld v s).log = s.log ∧ (sendWord c withheld v s).time = s.time ∧
    (sendWord c withheld v s).host = s.host ∧ (sendWord c withheld v s).store = s.store ∧
    (sendWord c withheld v s).free = s.free := by
  simp only [sendWord]; (repeat' split) <;> simp

@[simp] theorem sendDemand_frame (s : State) :
    (sendDemand s).pending = s.pending ∧ (sendDemand s).links = s.links ∧ (sendDemand s).force = s.force ∧
    (sendDemand s).strain = s.strain ∧ (sendDemand s).ext = s.ext ∧ (sendDemand s).motion.state = s.motion.state ∧
    (sendDemand s).motion.queue = s.motion.queue ∧ (sendDemand s).motion.driveEn = s.motion.driveEn ∧
    (sendDemand s).motion.jog = s.motion.jog ∧ (sendDemand s).motion.keepalive = s.motion.keepalive ∧
    (sendDemand s).motion.encCount = s.motion.encCount ∧ (sendDemand s).motion.softLower = s.motion.softLower ∧
    (sendDemand s).motion.softUpper = s.motion.softUpper ∧ (sendDemand s).motion.refX = s.motion.refX ∧
    (sendDemand s).motion.encA = s.motion.encA ∧ (sendDemand s).motion.encB = s.motion.encB ∧
    (sendDemand s).motion.encErrors = s.motion.encErrors ∧ (sendDemand s).motion.dest = s.motion.dest ∧
    (sendDemand s).motion.blind = s.motion.blind ∧ (sendDemand s).motion.ceiling = s.motion.ceiling ∧
    (sendDemand s).loop = s.loop ∧ (sendDemand s).prot = s.prot ∧ (sendDemand s).seq = s.seq ∧
    (sendDemand s).mon = s.mon ∧ (sendDemand s).router.routes = s.router.routes ∧
    (sendDemand s).router.notices = s.router.notices ∧ (sendDemand s).router.lost = s.router.lost ∧
    (sendDemand s).ins = s.ins ∧ (sendDemand s).outs = s.outs ∧ (sendDemand s).result = s.result ∧
    (sendDemand s).log = s.log ∧ (sendDemand s).time = s.time ∧ (sendDemand s).host = s.host ∧
    (sendDemand s).store = s.store ∧ (sendDemand s).free = s.free := by
  simp [sendDemand]

@[simp] theorem notePrevious_frame (s : State) :
    (notePrevious s).pending = s.pending ∧ (notePrevious s).links = s.links ∧ (notePrevious s).force = s.force ∧
    (notePrevious s).strain = s.strain ∧ (notePrevious s).ext = s.ext ∧ (notePrevious s).motion = s.motion ∧
    (notePrevious s).loop.gPos = s.loop.gPos ∧ (notePrevious s).loop.gStress = s.loop.gStress ∧
    (notePrevious s).loop.gStrain = s.loop.gStrain ∧ (notePrevious s).loop.mode = s.loop.mode ∧
    (notePrevious s).loop.target = s.loop.target ∧ (notePrevious s).prot = s.prot ∧ (notePrevious s).seq = s.seq ∧
    (notePrevious s).mon = s.mon ∧ (notePrevious s).router = s.router ∧ (notePrevious s).ins = s.ins ∧
    (notePrevious s).outs = s.outs ∧ (notePrevious s).result = s.result ∧ (notePrevious s).log = s.log ∧
    (notePrevious s).time = s.time ∧ (notePrevious s).host = s.host ∧ (notePrevious s).store = s.store ∧
    (notePrevious s).free = s.free := by
  simp only [notePrevious]; (repeat' split) <;> simp

@[simp] theorem completeHead_frame (seg : Segment) (s : State) :
    (completeHead seg s).pending = s.pending ∧ (completeHead seg s).links = s.links ∧
    (completeHead seg s).force = s.force ∧ (completeHead seg s).strain = s.strain ∧
    (completeHead seg s).ext = s.ext ∧ (completeHead seg s).motion.jog = s.motion.jog ∧
    (completeHead seg s).motion.keepalive = s.motion.keepalive ∧
    (completeHead seg s).motion.encCount = s.motion.encCount ∧
    (completeHead seg s).motion.softLower = s.motion.softLower ∧
    (completeHead seg s).motion.softUpper = s.motion.softUpper ∧ (completeHead seg s).motion.sign = s.motion.sign ∧
    (completeHead seg s).motion.encA = s.motion.encA ∧ (completeHead seg s).motion.encB = s.motion.encB ∧
    (completeHead seg s).motion.encErrors = s.motion.encErrors ∧
    (completeHead seg s).motion.periodDue = s.motion.periodDue ∧
    (completeHead seg s).motion.dwell = s.motion.dwell ∧ (completeHead seg s).motion.zeroRun = s.motion.zeroRun ∧
    (completeHead seg s).motion.blind = s.motion.blind ∧ (completeHead seg s).motion.lastWord = s.motion.lastWord ∧
    (completeHead seg s).loop.gPos = s.loop.gPos ∧ (completeHead seg s).loop.gStress = s.loop.gStress ∧
    (completeHead seg s).loop.gStrain = s.loop.gStrain ∧ (completeHead seg s).loop.target = s.loop.target ∧
    (completeHead seg s).prot.latched = s.prot.latched ∧ (completeHead seg s).prot.overload = s.prot.overload ∧
    (completeHead seg s).prot.gripCount = s.prot.gripCount ∧ (completeHead seg s).seq = s.seq ∧
    (completeHead seg s).mon = s.mon ∧ (completeHead seg s).router.routes = s.router.routes ∧
    (completeHead seg s).router.notices = s.router.notices ∧ (completeHead seg s).router.lost = s.router.lost ∧
    (completeHead seg s).ins = s.ins ∧ (completeHead seg s).outs = s.outs ∧ (completeHead seg s).result = s.result ∧
    (completeHead seg s).log = s.log ∧ (completeHead seg s).time = s.time ∧ (completeHead seg s).host = s.host ∧
    (completeHead seg s).store = s.store ∧ (completeHead seg s).free = s.free := by
  simp only [completeHead]; (repeat' split) <;> simp

@[simp] theorem advanceMove_frame (seg : Segment) (r : Int) (s : State) :
    (advanceMove seg r s).pending = s.pending ∧ (advanceMove seg r s).links = s.links ∧
    (advanceMove seg r s).force = s.force ∧ (advanceMove seg r s).strain = s.strain ∧
    (advanceMove seg r s).ext = s.ext ∧ (advanceMove seg r s).motion.jog = s.motion.jog ∧
    (advanceMove seg r s).motion.keepalive = s.motion.keepalive ∧
    (advanceMove seg r s).motion.encCount = s.motion.encCount ∧
    (advanceMove seg r s).motion.softLower = s.motion.softLower ∧
    (advanceMove seg r s).motion.softUpper = s.motion.softUpper ∧
    (advanceMove seg r s).motion.sign = s.motion.sign ∧ (advanceMove seg r s).motion.encA = s.motion.encA ∧
    (advanceMove seg r s).motion.encB = s.motion.encB ∧
    (advanceMove seg r s).motion.encErrors = s.motion.encErrors ∧
    (advanceMove seg r s).motion.periodDue = s.motion.periodDue ∧
    (advanceMove seg r s).motion.dwell = s.motion.dwell ∧ (advanceMove seg r s).motion.zeroRun = s.motion.zeroRun ∧
    (advanceMove seg r s).motion.blind = s.motion.blind ∧
    (advanceMove seg r s).motion.lastWord = s.motion.lastWord ∧ (advanceMove seg r s).loop.gPos = s.loop.gPos ∧
    (advanceMove seg r s).loop.gStress = s.loop.gStress ∧ (advanceMove seg r s).loop.gStrain = s.loop.gStrain ∧
    (advanceMove seg r s).loop.target = s.loop.target ∧ (advanceMove seg r s).prot.latched = s.prot.latched ∧
    (advanceMove seg r s).prot.overload = s.prot.overload ∧
    (advanceMove seg r s).prot.gripCount = s.prot.gripCount ∧ (advanceMove seg r s).seq = s.seq ∧
    (advanceMove seg r s).mon = s.mon ∧ (advanceMove seg r s).router.routes = s.router.routes ∧
    (advanceMove seg r s).router.notices = s.router.notices ∧ (advanceMove seg r s).router.lost = s.router.lost ∧
    (advanceMove seg r s).ins = s.ins ∧ (advanceMove seg r s).outs = s.outs ∧
    (advanceMove seg r s).result = s.result ∧ (advanceMove seg r s).log = s.log ∧
    (advanceMove seg r s).time = s.time ∧ (advanceMove seg r s).host = s.host ∧
    (advanceMove seg r s).store = s.store ∧ (advanceMove seg r s).free = s.free := by
  simp only [advanceMove]; (repeat' split) <;> simp

@[simp] theorem afterWord_frame (before : State) (s : State) :
    (afterWord before s).pending = s.pending ∧ (afterWord before s).links = s.links ∧
    (afterWord before s).force = s.force ∧ (afterWord before s).strain = s.strain ∧
    (afterWord before s).ext.primary = s.ext.primary ∧ (afterWord before s).ext.secondary = s.ext.secondary ∧
    (afterWord before s).ext.removal = s.ext.removal ∧ (afterWord before s).ext.slipM = s.ext.slipM ∧
    (afterWord before s).ext.slipX = s.ext.slipX ∧ (afterWord before s).motion.jog = s.motion.jog ∧
    (afterWord before s).motion.keepalive = s.motion.keepalive ∧
    (afterWord before s).motion.encCount = s.motion.encCount ∧
    (afterWord before s).motion.softLower = s.motion.softLower ∧
    (afterWord before s).motion.softUpper = s.motion.softUpper ∧ (afterWord before s).motion.sign = s.motion.sign ∧
    (afterWord before s).motion.encA = s.motion.encA ∧ (afterWord before s).motion.encB = s.motion.encB ∧
    (afterWord before s).motion.encErrors = s.motion.encErrors ∧
    (afterWord before s).motion.periodDue = s.motion.periodDue ∧
    (afterWord before s).motion.dwell = s.motion.dwell ∧ (afterWord before s).motion.zeroRun = s.motion.zeroRun ∧
    (afterWord before s).motion.blind = s.motion.blind ∧ (afterWord before s).motion.lastWord = s.motion.lastWord ∧
    (afterWord before s).loop.gPos = s.loop.gPos ∧ (afterWord before s).loop.gStress = s.loop.gStress ∧
    (afterWord before s).loop.gStrain = s.loop.gStrain ∧ (afterWord before s).loop.target = s.loop.target ∧
    (afterWord before s).prot.latched = s.prot.latched ∧ (afterWord before s).prot.overload = s.prot.overload ∧
    (afterWord before s).prot.gripCount = s.prot.gripCount ∧ (afterWord before s).seq.method = s.seq.method ∧
    (afterWord before s).seq.phases = s.seq.phases ∧ (afterWord before s).seq.phase = s.seq.phase ∧
    (afterWord before s).seq.held = s.seq.held ∧ (afterWord before s).seq.armedTrigger = s.seq.armedTrigger ∧
    (afterWord before s).seq.fractured = s.seq.fractured ∧ (afterWord before s).seq.endReason = s.seq.endReason ∧
    (afterWord before s).seq.abortCause = s.seq.abortCause ∧
    (afterWord before s).seq.pendingExit = s.seq.pendingExit ∧
    (afterWord before s).seq.phaseStart = s.seq.phaseStart ∧ (afterWord before s).mon = s.mon ∧
    (afterWord before s).router.routes = s.router.routes ∧ (afterWord before s).router.notices = s.router.notices ∧
    (afterWord before s).router.lost = s.router.lost ∧ (afterWord before s).ins = s.ins ∧
    (afterWord before s).outs = s.outs ∧ (afterWord before s).result.n = s.result.n ∧
    (afterWord before s).result.fracArmed = s.result.fracArmed ∧
    (afterWord before s).log.interval = s.log.interval ∧ (afterWord before s).log.seqNo = s.log.seqNo ∧
    (afterWord before s).log.stream = s.log.stream ∧ (afterWord before s).log.firstSkipped = s.log.firstSkipped ∧
    (afterWord before s).time.testTime = s.time.testTime ∧ (afterWord before s).time.sec = s.time.sec ∧
    (afterWord before s).time.ns = s.time.ns ∧ (afterWord before s).time.frac = s.time.frac ∧
    (afterWord before s).time.step = s.time.step ∧ (afterWord before s).time.trim = s.time.trim ∧
    (afterWord before s).time.crystal = s.time.crystal ∧ (afterWord before s).time.msSeen = s.time.msSeen ∧
    (afterWord before s).host = s.host ∧ (afterWord before s).store = s.store ∧ (afterWord before s).free = s.free := by
  simp only [afterWord]; (repeat' split) <;> simp

@[simp] theorem controlPeriod_frame (s : State) :
    (controlPeriod s).pending = s.pending ∧ (controlPeriod s).links = s.links ∧ (controlPeriod s).force = s.force ∧
    (controlPeriod s).strain.specimen = s.strain.specimen ∧ (controlPeriod s).strain.stress = s.strain.stress ∧
    (controlPeriod s).strain.stressSat = s.strain.stressSat ∧
    (controlPeriod s).strain.setSource = s.strain.setSource ∧
    (controlPeriod s).motion.encCount = s.motion.encCount ∧
    (controlPeriod s).motion.softLower = s.motion.softLower ∧
    (controlPeriod s).motion.softUpper = s.motion.softUpper ∧ (controlPeriod s).motion.encA = s.motion.encA ∧
    (controlPeriod s).motion.encB = s.motion.encB ∧ (controlPeriod s).motion.encErrors = s.motion.encErrors ∧
    (controlPeriod s).motion.blind = s.motion.blind ∧ (controlPeriod s).loop.gPos = s.loop.gPos ∧
    (controlPeriod s).loop.gStress = s.loop.gStress ∧ (controlPeriod s).loop.gStrain = s.loop.gStrain ∧
    (controlPeriod s).prot.overload = s.prot.overload ∧ (controlPeriod s).prot.gripCount = s.prot.gripCount ∧
    (controlPeriod s).seq.method = s.seq.method ∧ (controlPeriod s).seq.phases = s.seq.phases ∧
    (controlPeriod s).seq.fractured = s.seq.fractured ∧ (controlPeriod s).router.routes = s.router.routes ∧
    (controlPeriod s).router.notices = s.router.notices ∧ (controlPeriod s).router.lost = s.router.lost ∧
    (controlPeriod s).ins = s.ins ∧ (controlPeriod s).outs = s.outs ∧
    (controlPeriod s).log.interval = s.log.interval ∧ (controlPeriod s).log.seqNo = s.log.seqNo ∧
    (controlPeriod s).log.stream = s.log.stream ∧ (controlPeriod s).log.firstSkipped = s.log.firstSkipped ∧
    (controlPeriod s).time.testTime = s.time.testTime ∧ (controlPeriod s).time.sec = s.time.sec ∧
    (controlPeriod s).time.ns = s.time.ns ∧ (controlPeriod s).time.frac = s.time.frac ∧
    (controlPeriod s).time.step = s.time.step ∧ (controlPeriod s).time.trim = s.time.trim ∧
    (controlPeriod s).time.crystal = s.time.crystal ∧ (controlPeriod s).time.msSeen = s.time.msSeen ∧
    (controlPeriod s).host = s.host ∧ (controlPeriod s).store = s.store ∧ (controlPeriod s).free = s.free := by
  simp [controlPeriod]

@[simp] theorem doControlPeriod_frame (s : State) :
    (doControlPeriod s).pending = s.pending ∧ (doControlPeriod s).links = s.links ∧
    (doControlPeriod s).force = s.force ∧ (doControlPeriod s).strain.specimen = s.strain.specimen ∧
    (doControlPeriod s).strain.stress = s.strain.stress ∧
    (doControlPeriod s).strain.stressSat = s.strain.stressSat ∧
    (doControlPeriod s).strain.setSource = s.strain.setSource ∧
    (doControlPeriod s).motion.encCount = s.motion.encCount ∧
    (doControlPeriod s).motion.softLower = s.motion.softLower ∧
    (doControlPeriod s).motion.softUpper = s.motion.softUpper ∧ (doControlPeriod s).motion.encA = s.motion.encA ∧
    (doControlPeriod s).motion.encB = s.motion.encB ∧ (doControlPeriod s).motion.encErrors = s.motion.encErrors ∧
    (doControlPeriod s).motion.blind = s.motion.blind ∧ (doControlPeriod s).loop.gPos = s.loop.gPos ∧
    (doControlPeriod s).loop.gStress = s.loop.gStress ∧ (doControlPeriod s).loop.gStrain = s.loop.gStrain ∧
    (doControlPeriod s).prot.overload = s.prot.overload ∧ (doControlPeriod s).prot.gripCount = s.prot.gripCount ∧
    (doControlPeriod s).seq.method = s.seq.method ∧ (doControlPeriod s).seq.phases = s.seq.phases ∧
    (doControlPeriod s).seq.fractured = s.seq.fractured ∧ (doControlPeriod s).router.routes = s.router.routes ∧
    (doControlPeriod s).ins = s.ins ∧ (doControlPeriod s).log.interval = s.log.interval ∧
    (doControlPeriod s).log.seqNo = s.log.seqNo ∧ (doControlPeriod s).log.stream = s.log.stream ∧
    (doControlPeriod s).log.firstSkipped = s.log.firstSkipped ∧
    (doControlPeriod s).time.testTime = s.time.testTime ∧ (doControlPeriod s).time.sec = s.time.sec ∧
    (doControlPeriod s).time.ns = s.time.ns ∧ (doControlPeriod s).time.frac = s.time.frac ∧
    (doControlPeriod s).time.step = s.time.step ∧ (doControlPeriod s).time.trim = s.time.trim ∧
    (doControlPeriod s).time.crystal = s.time.crystal ∧ (doControlPeriod s).time.msSeen = s.time.msSeen ∧
    (doControlPeriod s).host.rx = s.host.rx ∧ (doControlPeriod s).host.replies = s.host.replies ∧
    (doControlPeriod s).host.goodFrames = s.host.goodFrames ∧
    (doControlPeriod s).host.crcErrors = s.host.crcErrors ∧
    (doControlPeriod s).host.framingErrors = s.host.framingErrors ∧
    (doControlPeriod s).host.overruns = s.host.overruns ∧ (doControlPeriod s).host.framesSent = s.host.framesSent ∧
    (doControlPeriod s).host.resetPending = s.host.resetPending ∧ (doControlPeriod s).store = s.store ∧
    (doControlPeriod s).free = s.free := by
  simp [doControlPeriod]

@[simp] theorem doEncoderTransition_frame (a : Bool) (b : Bool) (s : State) :
    (doEncoderTransition a b s).pending = s.pending ∧ (doEncoderTransition a b s).links = s.links ∧
    (doEncoderTransition a b s).force = s.force ∧ (doEncoderTransition a b s).strain = s.strain ∧
    (doEncoderTransition a b s).ext = s.ext ∧ (doEncoderTransition a b s).motion.state = s.motion.state ∧
    (doEncoderTransition a b s).motion.queue = s.motion.queue ∧
    (doEncoderTransition a b s).motion.driveEn = s.motion.driveEn ∧
    (doEncoderTransition a b s).motion.lastDemand = s.motion.lastDemand ∧
    (doEncoderTransition a b s).motion.jog = s.motion.jog ∧
    (doEncoderTransition a b s).motion.keepalive = s.motion.keepalive ∧
    (doEncoderTransition a b s).motion.softLower = s.motion.softLower ∧
    (doEncoderTransition a b s).motion.softUpper = s.motion.softUpper ∧
    (doEncoderTransition a b s).motion.sign = s.motion.sign ∧
    (doEncoderTransition a b s).motion.refX = s.motion.refX ∧
    (doEncoderTransition a b s).motion.periodDue = s.motion.periodDue ∧
    (doEncoderTransition a b s).motion.dwell = s.motion.dwell ∧
    (doEncoderTransition a b s).motion.zeroRun = s.motion.zeroRun ∧
    (doEncoderTransition a b s).motion.dest = s.motion.dest ∧
    (doEncoderTransition a b s).motion.blind = s.motion.blind ∧
    (doEncoderTransition a b s).motion.lastWord = s.motion.lastWord ∧
    (doEncoderTransition a b s).motion.ceiling = s.motion.ceiling ∧ (doEncoderTransition a b s).loop = s.loop ∧
    (doEncoderTransition a b s).prot = s.prot ∧ (doEncoderTransition a b s).seq = s.seq ∧
    (doEncoderTransition a b s).mon = s.mon ∧ (doEncoderTransition a b s).router = s.router ∧
    (doEncoderTransition a b s).ins = s.ins ∧ (doEncoderTransition a b s).outs = s.outs ∧
    (doEncoderTransition a b s).result = s.result ∧ (doEncoderTransition a b s).log = s.log ∧
    (doEncoderTransition a b s).time = s.time ∧ (doEncoderTransition a b s).host = s.host ∧
    (doEncoderTransition a b s).store = s.store ∧ (doEncoderTransition a b s).free = s.free := by
  simp only [doEncoderTransition]; (repeat' split) <;> simp

@[simp] theorem expireJog_frame (s : State) :
    (expireJog s).pending = s.pending ∧ (expireJog s).links = s.links ∧ (expireJog s).force = s.force ∧
    (expireJog s).strain = s.strain ∧ (expireJog s).ext.primary = s.ext.primary ∧
    (expireJog s).ext.secondary = s.ext.secondary ∧ (expireJog s).ext.removal = s.ext.removal ∧
    (expireJog s).ext.slipM = s.ext.slipM ∧ (expireJog s).ext.slipX = s.ext.slipX ∧
    (expireJog s).motion.encCount = s.motion.encCount ∧ (expireJog s).motion.softLower = s.motion.softLower ∧
    (expireJog s).motion.softUpper = s.motion.softUpper ∧ (expireJog s).motion.sign = s.motion.sign ∧
    (expireJog s).motion.refX = s.motion.refX ∧ (expireJog s).motion.encA = s.motion.encA ∧
    (expireJog s).motion.encB = s.motion.encB ∧ (expireJog s).motion.encErrors = s.motion.encErrors ∧
    (expireJog s).motion.periodDue = s.motion.periodDue ∧ (expireJog s).motion.dwell = s.motion.dwell ∧
    (expireJog s).motion.zeroRun = s.motion.zeroRun ∧ (expireJog s).motion.blind = s.motion.blind ∧
    (expireJog s).motion.lastWord = s.motion.lastWord ∧ (expireJog s).loop.gPos = s.loop.gPos ∧
    (expireJog s).loop.gStress = s.loop.gStress ∧ (expireJog s).loop.gStrain = s.loop.gStrain ∧
    (expireJog s).loop.target = s.loop.target ∧ (expireJog s).prot.latched = s.prot.latched ∧
    (expireJog s).prot.overload = s.prot.overload ∧ (expireJog s).prot.gripCount = s.prot.gripCount ∧
    (expireJog s).seq.method = s.seq.method ∧ (expireJog s).seq.phases = s.seq.phases ∧
    (expireJog s).seq.phase = s.seq.phase ∧ (expireJog s).seq.held = s.seq.held ∧
    (expireJog s).seq.armedTrigger = s.seq.armedTrigger ∧ (expireJog s).seq.fractured = s.seq.fractured ∧
    (expireJog s).seq.endReason = s.seq.endReason ∧ (expireJog s).seq.abortCause = s.seq.abortCause ∧
    (expireJog s).seq.pendingExit = s.seq.pendingExit ∧ (expireJog s).seq.phaseStart = s.seq.phaseStart ∧
    (expireJog s).mon = s.mon ∧ (expireJog s).router.routes = s.router.routes ∧
    (expireJog s).router.notices = s.router.notices ∧ (expireJog s).router.lost = s.router.lost ∧
    (expireJog s).ins = s.ins ∧ (expireJog s).outs = s.outs ∧ (expireJog s).result.n = s.result.n ∧
    (expireJog s).result.fracArmed = s.result.fracArmed ∧ (expireJog s).log.interval = s.log.interval ∧
    (expireJog s).log.seqNo = s.log.seqNo ∧ (expireJog s).log.stream = s.log.stream ∧
    (expireJog s).log.firstSkipped = s.log.firstSkipped ∧ (expireJog s).time.testTime = s.time.testTime ∧
    (expireJog s).time.sec = s.time.sec ∧ (expireJog s).time.ns = s.time.ns ∧
    (expireJog s).time.frac = s.time.frac ∧ (expireJog s).time.step = s.time.step ∧
    (expireJog s).time.trim = s.time.trim ∧ (expireJog s).time.crystal = s.time.crystal ∧
    (expireJog s).time.msSeen = s.time.msSeen ∧ (expireJog s).host = s.host ∧ (expireJog s).store = s.store ∧
    (expireJog s).free = s.free := by
  simp only [expireJog]; (repeat' split) <;> simp

@[simp] theorem doJogKeepaliveExpiry_frame (s : State) :
    (doJogKeepaliveExpiry s).pending = s.pending ∧ (doJogKeepaliveExpiry s).links = s.links ∧
    (doJogKeepaliveExpiry s).force = s.force ∧ (doJogKeepaliveExpiry s).strain = s.strain ∧
    (doJogKeepaliveExpiry s).ext.primary = s.ext.primary ∧
    (doJogKeepaliveExpiry s).ext.secondary = s.ext.secondary ∧
    (doJogKeepaliveExpiry s).ext.removal = s.ext.removal ∧ (doJogKeepaliveExpiry s).ext.slipM = s.ext.slipM ∧
    (doJogKeepaliveExpiry s).ext.slipX = s.ext.slipX ∧
    (doJogKeepaliveExpiry s).motion.encCount = s.motion.encCount ∧
    (doJogKeepaliveExpiry s).motion.softLower = s.motion.softLower ∧
    (doJogKeepaliveExpiry s).motion.softUpper = s.motion.softUpper ∧
    (doJogKeepaliveExpiry s).motion.sign = s.motion.sign ∧ (doJogKeepaliveExpiry s).motion.refX = s.motion.refX ∧
    (doJogKeepaliveExpiry s).motion.encA = s.motion.encA ∧ (doJogKeepaliveExpiry s).motion.encB = s.motion.encB ∧
    (doJogKeepaliveExpiry s).motion.encErrors = s.motion.encErrors ∧
    (doJogKeepaliveExpiry s).motion.periodDue = s.motion.periodDue ∧
    (doJogKeepaliveExpiry s).motion.dwell = s.motion.dwell ∧
    (doJogKeepaliveExpiry s).motion.zeroRun = s.motion.zeroRun ∧
    (doJogKeepaliveExpiry s).motion.blind = s.motion.blind ∧
    (doJogKeepaliveExpiry s).motion.lastWord = s.motion.lastWord ∧
    (doJogKeepaliveExpiry s).loop.gPos = s.loop.gPos ∧ (doJogKeepaliveExpiry s).loop.gStress = s.loop.gStress ∧
    (doJogKeepaliveExpiry s).loop.gStrain = s.loop.gStrain ∧
    (doJogKeepaliveExpiry s).prot.latched = s.prot.latched ∧
    (doJogKeepaliveExpiry s).prot.overload = s.prot.overload ∧
    (doJogKeepaliveExpiry s).prot.gripCount = s.prot.gripCount ∧
    (doJogKeepaliveExpiry s).seq.method = s.seq.method ∧ (doJogKeepaliveExpiry s).seq.phases = s.seq.phases ∧
    (doJogKeepaliveExpiry s).seq.phase = s.seq.phase ∧
    (doJogKeepaliveExpiry s).seq.armedTrigger = s.seq.armedTrigger ∧
    (doJogKeepaliveExpiry s).seq.fractured = s.seq.fractured ∧
    (doJogKeepaliveExpiry s).seq.endReason = s.seq.endReason ∧
    (doJogKeepaliveExpiry s).seq.abortCause = s.seq.abortCause ∧
    (doJogKeepaliveExpiry s).seq.pendingExit = s.seq.pendingExit ∧
    (doJogKeepaliveExpiry s).seq.phaseStart = s.seq.phaseStart ∧ (doJogKeepaliveExpiry s).mon = s.mon ∧
    (doJogKeepaliveExpiry s).router.routes = s.router.routes ∧ (doJogKeepaliveExpiry s).ins = s.ins ∧
    (doJogKeepaliveExpiry s).result.n = s.result.n ∧
    (doJogKeepaliveExpiry s).result.fracArmed = s.result.fracArmed ∧
    (doJogKeepaliveExpiry s).log.interval = s.log.interval ∧ (doJogKeepaliveExpiry s).log.seqNo = s.log.seqNo ∧
    (doJogKeepaliveExpiry s).log.stream = s.log.stream ∧
    (doJogKeepaliveExpiry s).log.firstSkipped = s.log.firstSkipped ∧
    (doJogKeepaliveExpiry s).time.testTime = s.time.testTime ∧ (doJogKeepaliveExpiry s).time.sec = s.time.sec ∧
    (doJogKeepaliveExpiry s).time.ns = s.time.ns ∧ (doJogKeepaliveExpiry s).time.frac = s.time.frac ∧
    (doJogKeepaliveExpiry s).time.step = s.time.step ∧ (doJogKeepaliveExpiry s).time.trim = s.time.trim ∧
    (doJogKeepaliveExpiry s).time.crystal = s.time.crystal ∧ (doJogKeepaliveExpiry s).time.msSeen = s.time.msSeen ∧
    (doJogKeepaliveExpiry s).host.rx = s.host.rx ∧ (doJogKeepaliveExpiry s).host.replies = s.host.replies ∧
    (doJogKeepaliveExpiry s).host.goodFrames = s.host.goodFrames ∧
    (doJogKeepaliveExpiry s).host.crcErrors = s.host.crcErrors ∧
    (doJogKeepaliveExpiry s).host.framingErrors = s.host.framingErrors ∧
    (doJogKeepaliveExpiry s).host.overruns = s.host.overruns ∧
    (doJogKeepaliveExpiry s).host.framesSent = s.host.framesSent ∧
    (doJogKeepaliveExpiry s).host.resetPending = s.host.resetPending ∧ (doJogKeepaliveExpiry s).store = s.store ∧
    (doJogKeepaliveExpiry s).free = s.free := by
  simp only [doJogKeepaliveExpiry]; (repeat' split) <;> simp

@[simp] theorem triggerHead_frame (n : Nat) (s : State) :
    (triggerHead n s).pending = s.pending ∧ (triggerHead n s).links = s.links ∧ (triggerHead n s).force = s.force ∧
    (triggerHead n s).strain = s.strain ∧ (triggerHead n s).ext = s.ext ∧
    (triggerHead n s).motion.jog = s.motion.jog ∧ (triggerHead n s).motion.keepalive = s.motion.keepalive ∧
    (triggerHead n s).motion.encCount = s.motion.encCount ∧
    (triggerHead n s).motion.softLower = s.motion.softLower ∧
    (triggerHead n s).motion.softUpper = s.motion.softUpper ∧ (triggerHead n s).motion.sign = s.motion.sign ∧
    (triggerHead n s).motion.encA = s.motion.encA ∧ (triggerHead n s).motion.encB = s.motion.encB ∧
    (triggerHead n s).motion.encErrors = s.motion.encErrors ∧
    (triggerHead n s).motion.periodDue = s.motion.periodDue ∧ (triggerHead n s).motion.dwell = s.motion.dwell ∧
    (triggerHead n s).motion.zeroRun = s.motion.zeroRun ∧ (triggerHead n s).motion.blind = s.motion.blind ∧
    (triggerHead n s).motion.lastWord = s.motion.lastWord ∧ (triggerHead n s).loop.gPos = s.loop.gPos ∧
    (triggerHead n s).loop.gStress = s.loop.gStress ∧ (triggerHead n s).loop.gStrain = s.loop.gStrain ∧
    (triggerHead n s).loop.target = s.loop.target ∧ (triggerHead n s).prot.latched = s.prot.latched ∧
    (triggerHead n s).prot.overload = s.prot.overload ∧ (triggerHead n s).prot.gripCount = s.prot.gripCount ∧
    (triggerHead n s).seq = s.seq ∧ (triggerHead n s).mon = s.mon ∧ (triggerHead n s).router = s.router ∧
    (triggerHead n s).ins = s.ins ∧ (triggerHead n s).outs = s.outs ∧ (triggerHead n s).result = s.result ∧
    (triggerHead n s).log = s.log ∧ (triggerHead n s).time = s.time ∧ (triggerHead n s).host = s.host ∧
    (triggerHead n s).store = s.store ∧ (triggerHead n s).free = s.free := by
  simp only [triggerHead]; (repeat' split) <;> simp

@[simp] theorem appendSegment_frame (g : Segment) (s : State) :
    (appendSegment g s).pending = s.pending ∧ (appendSegment g s).links = s.links ∧
    (appendSegment g s).force = s.force ∧ (appendSegment g s).strain = s.strain ∧ (appendSegment g s).ext = s.ext ∧
    (appendSegment g s).motion.jog = s.motion.jog ∧ (appendSegment g s).motion.keepalive = s.motion.keepalive ∧
    (appendSegment g s).motion.encCount = s.motion.encCount ∧
    (appendSegment g s).motion.softLower = s.motion.softLower ∧
    (appendSegment g s).motion.softUpper = s.motion.softUpper ∧ (appendSegment g s).motion.sign = s.motion.sign ∧
    (appendSegment g s).motion.encA = s.motion.encA ∧ (appendSegment g s).motion.encB = s.motion.encB ∧
    (appendSegment g s).motion.encErrors = s.motion.encErrors ∧
    (appendSegment g s).motion.periodDue = s.motion.periodDue ∧ (appendSegment g s).motion.dwell = s.motion.dwell ∧
    (appendSegment g s).motion.zeroRun = s.motion.zeroRun ∧ (appendSegment g s).motion.blind = s.motion.blind ∧
    (appendSegment g s).motion.lastWord = s.motion.lastWord ∧ (appendSegment g s).loop.gPos = s.loop.gPos ∧
    (appendSegment g s).loop.gStress = s.loop.gStress ∧ (appendSegment g s).loop.gStrain = s.loop.gStrain ∧
    (appendSegment g s).loop.target = s.loop.target ∧ (appendSegment g s).prot.latched = s.prot.latched ∧
    (appendSegment g s).prot.overload = s.prot.overload ∧ (appendSegment g s).prot.gripCount = s.prot.gripCount ∧
    (appendSegment g s).seq = s.seq ∧ (appendSegment g s).mon = s.mon ∧ (appendSegment g s).router = s.router ∧
    (appendSegment g s).ins = s.ins ∧ (appendSegment g s).outs = s.outs ∧ (appendSegment g s).result = s.result ∧
    (appendSegment g s).log = s.log ∧ (appendSegment g s).time = s.time ∧ (appendSegment g s).host = s.host ∧
    (appendSegment g s).store = s.store ∧ (appendSegment g s).free = s.free := by
  simp only [appendSegment]; (repeat' split) <;> simp

@[simp] theorem takeJog_frame (j : Jog) (s : State) :
    (takeJog j s).pending = s.pending ∧ (takeJog j s).links = s.links ∧ (takeJog j s).force = s.force ∧
    (takeJog j s).strain = s.strain ∧ (takeJog j s).ext = s.ext ∧ (takeJog j s).motion.queue = s.motion.queue ∧
    (takeJog j s).motion.encCount = s.motion.encCount ∧ (takeJog j s).motion.softLower = s.motion.softLower ∧
    (takeJog j s).motion.softUpper = s.motion.softUpper ∧ (takeJog j s).motion.sign = s.motion.sign ∧
    (takeJog j s).motion.refX = s.motion.refX ∧ (takeJog j s).motion.encA = s.motion.encA ∧
    (takeJog j s).motion.encB = s.motion.encB ∧ (takeJog j s).motion.encErrors = s.motion.encErrors ∧
    (takeJog j s).motion.periodDue = s.motion.periodDue ∧ (takeJog j s).motion.dwell = s.motion.dwell ∧
    (takeJog j s).motion.zeroRun = s.motion.zeroRun ∧ (takeJog j s).motion.blind = s.motion.blind ∧
    (takeJog j s).motion.lastWord = s.motion.lastWord ∧ (takeJog j s).loop.gPos = s.loop.gPos ∧
    (takeJog j s).loop.gStress = s.loop.gStress ∧ (takeJog j s).loop.gStrain = s.loop.gStrain ∧
    (takeJog j s).loop.target = s.loop.target ∧ (takeJog j s).prot.latched = s.prot.latched ∧
    (takeJog j s).prot.overload = s.prot.overload ∧ (takeJog j s).prot.gripCount = s.prot.gripCount ∧
    (takeJog j s).seq = s.seq ∧ (takeJog j s).mon = s.mon ∧ (takeJog j s).router = s.router ∧
    (takeJog j s).ins = s.ins ∧ (takeJog j s).outs = s.outs ∧ (takeJog j s).result = s.result ∧
    (takeJog j s).log = s.log ∧ (takeJog j s).time = s.time ∧ (takeJog j s).host = s.host ∧
    (takeJog j s).store = s.store ∧ (takeJog j s).free = s.free := by
  simp only [takeJog]; (repeat' split) <;> simp

end Sys2Proof.Machine
end

