-- ==== Sys2Proof/Laws/Commands.lean ====
section
/-! SUPPORT. What each operation leaves alone, one lemma for each: test start, the timers, the inputs, the calibration, the host receiver and the resets.
A field that a lemma does not name is one that the operation can change. -/

namespace Sys2Proof.Machine

/-! ## SeqCmds -/

@[simp] theorem testZero_frame (s : State) :
    (testZero s).pending = s.pending ∧ (testZero s).links = s.links ∧ (testZero s).force = s.force ∧
    (testZero s).strain.specimen = s.strain.specimen ∧ (testZero s).strain.stress = s.strain.stress ∧
    (testZero s).strain.stressSat = s.strain.stressSat ∧
    (testZero s).strain.setSource = s.strain.setSource ∧ (testZero s).motion.encCount = s.motion.encCount ∧
    (testZero s).motion.softLower = s.motion.softLower ∧ (testZero s).motion.softUpper = s.motion.softUpper ∧
    (testZero s).motion.sign = s.motion.sign ∧ (testZero s).motion.refX = s.motion.refX ∧
    (testZero s).motion.encA = s.motion.encA ∧ (testZero s).motion.encB = s.motion.encB ∧
    (testZero s).motion.encErrors = s.motion.encErrors ∧ (testZero s).motion.periodDue = s.motion.periodDue ∧
    (testZero s).motion.dwell = s.motion.dwell ∧ (testZero s).motion.zeroRun = s.motion.zeroRun ∧
    (testZero s).motion.blind = s.motion.blind ∧ (testZero s).motion.lastWord = s.motion.lastWord ∧
    (testZero s).loop.gPos = s.loop.gPos ∧ (testZero s).loop.gStress = s.loop.gStress ∧
    (testZero s).loop.gStrain = s.loop.gStrain ∧ (testZero s).prot.latched = s.prot.latched ∧
    (testZero s).prot.overload = s.prot.overload ∧ (testZero s).prot.gripCount = s.prot.gripCount ∧
    (testZero s).seq.method = s.seq.method ∧ (testZero s).seq.phases = s.seq.phases ∧
    (testZero s).seq.armedTrigger = s.seq.armedTrigger ∧ (testZero s).seq.fractured = s.seq.fractured ∧
    (testZero s).seq.abortCause = s.seq.abortCause ∧ (testZero s).router.routes = s.router.routes ∧
    (testZero s).router.notices = s.router.notices ∧ (testZero s).router.lost = s.router.lost ∧
    (testZero s).ins = s.ins ∧ (testZero s).outs = s.outs ∧ (testZero s).log.interval = s.log.interval ∧
    (testZero s).log.seqNo = s.log.seqNo ∧ (testZero s).log.stream = s.log.stream ∧
    (testZero s).log.firstSkipped = s.log.firstSkipped ∧ (testZero s).time.testTime = s.time.testTime ∧
    (testZero s).time.sec = s.time.sec ∧ (testZero s).time.ns = s.time.ns ∧ (testZero s).time.frac = s.time.frac ∧
    (testZero s).time.step = s.time.step ∧ (testZero s).time.trim = s.time.trim ∧
    (testZero s).time.crystal = s.time.crystal ∧ (testZero s).time.msSeen = s.time.msSeen ∧
    (testZero s).host = s.host ∧ (testZero s).store = s.store ∧ (testZero s).free = s.free := by
  simp [testZero]

@[simp] theorem startHandler_frame (s : State) :
    (startHandler s).pending = s.pending ∧ (startHandler s).links = s.links ∧ (startHandler s).force = s.force ∧
    (startHandler s).strain = s.strain ∧ (startHandler s).motion = s.motion ∧ (startHandler s).loop = s.loop ∧
    (startHandler s).prot = s.prot ∧ (startHandler s).seq = s.seq ∧ (startHandler s).mon = s.mon ∧
    (startHandler s).router = s.router ∧ (startHandler s).ins = s.ins ∧ (startHandler s).outs = s.outs ∧
    (startHandler s).result = s.result ∧ (startHandler s).log = s.log ∧ (startHandler s).time = s.time ∧
    (startHandler s).host = s.host ∧ (startHandler s).store = s.store ∧ (startHandler s).free = s.free := by
  simp only [startHandler]; (repeat' split) <;> simp

@[simp] theorem clearLog_frame (s : State) :
    (clearLog s).pending = s.pending ∧ (clearLog s).links = s.links ∧ (clearLog s).force = s.force ∧
    (clearLog s).strain = s.strain ∧ (clearLog s).ext = s.ext ∧ (clearLog s).motion = s.motion ∧
    (clearLog s).loop = s.loop ∧ (clearLog s).prot = s.prot ∧ (clearLog s).seq = s.seq ∧ (clearLog s).mon = s.mon ∧
    (clearLog s).router.routes = s.router.routes ∧ (clearLog s).router.notices = s.router.notices ∧
    (clearLog s).router.lost = s.router.lost ∧ (clearLog s).ins = s.ins ∧ (clearLog s).outs = s.outs ∧
    (clearLog s).result = s.result ∧ (clearLog s).log.interval = s.log.interval ∧
    (clearLog s).log.stream = s.log.stream ∧ (clearLog s).log.firstSkipped = s.log.firstSkipped ∧
    (clearLog s).time = s.time ∧ (clearLog s).host = s.host ∧ (clearLog s).store = s.store ∧
    (clearLog s).free = s.free := by
  simp [clearLog]

@[simp] theorem armMonitors_frame (s : State) :
    (armMonitors s).pending = s.pending ∧ (armMonitors s).links = s.links ∧ (armMonitors s).force = s.force ∧
    (armMonitors s).strain = s.strain ∧ (armMonitors s).ext = s.ext ∧ (armMonitors s).motion = s.motion ∧
    (armMonitors s).loop = s.loop ∧ (armMonitors s).prot = s.prot ∧ (armMonitors s).seq = s.seq ∧
    (armMonitors s).mon.fired = s.mon.fired ∧ (armMonitors s).router = s.router ∧ (armMonitors s).ins = s.ins ∧
    (armMonitors s).outs = s.outs ∧ (armMonitors s).result = s.result ∧ (armMonitors s).log = s.log ∧
    (armMonitors s).time = s.time ∧ (armMonitors s).host = s.host ∧ (armMonitors s).store = s.store ∧
    (armMonitors s).free = s.free := by
  simp [armMonitors]

@[simp] theorem startBlocks_frame (s : State) :
    (startBlocks s).pending = s.pending ∧ (startBlocks s).links = s.links ∧
    (startBlocks s).force.tare = s.force.tare ∧ (startBlocks s).force.f = s.force.f ∧
    (startBlocks s).force.tareOp = s.force.tareOp ∧ (startBlocks s).force.uncal = s.force.uncal ∧
    (startBlocks s).strain.specimen = s.strain.specimen ∧ (startBlocks s).strain.stress = s.strain.stress ∧
    (startBlocks s).strain.stressSat = s.strain.stressSat ∧
    (startBlocks s).strain.setSource = s.strain.setSource ∧ (startBlocks s).motion.encCount = s.motion.encCount ∧
    (startBlocks s).motion.softLower = s.motion.softLower ∧ (startBlocks s).motion.softUpper = s.motion.softUpper ∧
    (startBlocks s).motion.sign = s.motion.sign ∧ (startBlocks s).motion.refX = s.motion.refX ∧
    (startBlocks s).motion.encA = s.motion.encA ∧ (startBlocks s).motion.encB = s.motion.encB ∧
    (startBlocks s).motion.encErrors = s.motion.encErrors ∧ (startBlocks s).motion.periodDue = s.motion.periodDue ∧
    (startBlocks s).motion.dwell = s.motion.dwell ∧ (startBlocks s).motion.zeroRun = s.motion.zeroRun ∧
    (startBlocks s).motion.blind = s.motion.blind ∧ (startBlocks s).motion.lastWord = s.motion.lastWord ∧
    (startBlocks s).loop.gPos = s.loop.gPos ∧ (startBlocks s).loop.gStress = s.loop.gStress ∧
    (startBlocks s).loop.gStrain = s.loop.gStrain ∧ (startBlocks s).prot.latched = s.prot.latched ∧
    (startBlocks s).prot.overload = s.prot.overload ∧ (startBlocks s).prot.gripCount = s.prot.gripCount ∧
    (startBlocks s).seq.method = s.seq.method ∧ (startBlocks s).seq.phases = s.seq.phases ∧
    (startBlocks s).seq.armedTrigger = s.seq.armedTrigger ∧ (startBlocks s).seq.fractured = s.seq.fractured ∧
    (startBlocks s).seq.abortCause = s.seq.abortCause ∧ (startBlocks s).router.routes = s.router.routes ∧
    (startBlocks s).router.notices = s.router.notices ∧ (startBlocks s).router.lost = s.router.lost ∧
    (startBlocks s).ins = s.ins ∧ (startBlocks s).outs = s.outs ∧ (startBlocks s).log.interval = s.log.interval ∧
    (startBlocks s).log.seqNo = s.log.seqNo ∧ (startBlocks s).log.stream = s.log.stream ∧
    (startBlocks s).log.firstSkipped = s.log.firstSkipped ∧ (startBlocks s).time.sec = s.time.sec ∧
    (startBlocks s).time.ns = s.time.ns ∧ (startBlocks s).time.frac = s.time.frac ∧
    (startBlocks s).time.step = s.time.step ∧ (startBlocks s).time.trim = s.time.trim ∧
    (startBlocks s).time.crystal = s.time.crystal ∧ (startBlocks s).host = s.host ∧
    (startBlocks s).store = s.store ∧ (startBlocks s).free = s.free := by
  simp [startBlocks]

@[simp] theorem startRunning_frame (s : State) :
    (startRunning s).pending = s.pending ∧ (startRunning s).links = s.links ∧ (startRunning s).force = s.force ∧
    (startRunning s).strain = s.strain ∧ (startRunning s).ext = s.ext ∧
    (startRunning s).motion.queue = s.motion.queue ∧ (startRunning s).motion.jog = s.motion.jog ∧
    (startRunning s).motion.keepalive = s.motion.keepalive ∧ (startRunning s).motion.encCount = s.motion.encCount ∧
    (startRunning s).motion.softLower = s.motion.softLower ∧
    (startRunning s).motion.softUpper = s.motion.softUpper ∧ (startRunning s).motion.sign = s.motion.sign ∧
    (startRunning s).motion.refX = s.motion.refX ∧ (startRunning s).motion.encA = s.motion.encA ∧
    (startRunning s).motion.encB = s.motion.encB ∧ (startRunning s).motion.encErrors = s.motion.encErrors ∧
    (startRunning s).motion.periodDue = s.motion.periodDue ∧ (startRunning s).motion.dwell = s.motion.dwell ∧
    (startRunning s).motion.zeroRun = s.motion.zeroRun ∧ (startRunning s).motion.blind = s.motion.blind ∧
    (startRunning s).motion.lastWord = s.motion.lastWord ∧ (startRunning s).loop.gPos = s.loop.gPos ∧
    (startRunning s).loop.gStress = s.loop.gStress ∧ (startRunning s).loop.gStrain = s.loop.gStrain ∧
    (startRunning s).loop.target = s.loop.target ∧ (startRunning s).prot.latched = s.prot.latched ∧
    (startRunning s).prot.overload = s.prot.overload ∧ (startRunning s).prot.gripCount = s.prot.gripCount ∧
    (startRunning s).seq.method = s.seq.method ∧ (startRunning s).seq.phases = s.seq.phases ∧
    (startRunning s).seq.phaseStart = s.seq.phaseStart ∧ (startRunning s).mon = s.mon ∧
    (startRunning s).router.routes = s.router.routes ∧ (startRunning s).router.notices = s.router.notices ∧
    (startRunning s).router.lost = s.router.lost ∧ (startRunning s).ins = s.ins ∧ (startRunning s).outs = s.outs ∧
    (startRunning s).result = s.result ∧ (startRunning s).log = s.log ∧ (startRunning s).time = s.time ∧
    (startRunning s).host = s.host ∧ (startRunning s).store = s.store ∧ (startRunning s).free = s.free := by
  simp [startRunning]

@[simp] theorem testStart_frame (s : State) :
    (testStart s).pending = s.pending ∧ (testStart s).links = s.links ∧ (testStart s).force.tare = s.force.tare ∧
    (testStart s).force.f = s.force.f ∧ (testStart s).force.tareOp = s.force.tareOp ∧
    (testStart s).force.uncal = s.force.uncal ∧ (testStart s).strain.specimen = s.strain.specimen ∧
    (testStart s).strain.stress = s.strain.stress ∧ (testStart s).strain.stressSat = s.strain.stressSat ∧
    (testStart s).strain.setSource = s.strain.setSource ∧
    (testStart s).motion.encCount = s.motion.encCount ∧ (testStart s).motion.softLower = s.motion.softLower ∧
    (testStart s).motion.softUpper = s.motion.softUpper ∧ (testStart s).motion.sign = s.motion.sign ∧
    (testStart s).motion.refX = s.motion.refX ∧ (testStart s).motion.encA = s.motion.encA ∧
    (testStart s).motion.encB = s.motion.encB ∧ (testStart s).motion.encErrors = s.motion.encErrors ∧
    (testStart s).motion.periodDue = s.motion.periodDue ∧ (testStart s).motion.dwell = s.motion.dwell ∧
    (testStart s).motion.zeroRun = s.motion.zeroRun ∧ (testStart s).motion.blind = s.motion.blind ∧
    (testStart s).motion.lastWord = s.motion.lastWord ∧ (testStart s).loop.gPos = s.loop.gPos ∧
    (testStart s).loop.gStress = s.loop.gStress ∧ (testStart s).loop.gStrain = s.loop.gStrain ∧
    (testStart s).prot.latched = s.prot.latched ∧ (testStart s).prot.overload = s.prot.overload ∧
    (testStart s).prot.gripCount = s.prot.gripCount ∧ (testStart s).seq.method = s.seq.method ∧
    (testStart s).seq.phases = s.seq.phases ∧ (testStart s).router.routes = s.router.routes ∧
    (testStart s).ins = s.ins ∧ (testStart s).log.interval = s.log.interval ∧
    (testStart s).log.stream = s.log.stream ∧ (testStart s).log.firstSkipped = s.log.firstSkipped ∧
    (testStart s).time.sec = s.time.sec ∧ (testStart s).time.ns = s.time.ns ∧
    (testStart s).time.frac = s.time.frac ∧ (testStart s).time.step = s.time.step ∧
    (testStart s).time.trim = s.time.trim ∧ (testStart s).time.crystal = s.time.crystal ∧
    (testStart s).host = s.host ∧ (testStart s).store = s.store ∧ (testStart s).free = s.free := by
  simp only [testStart]; (repeat' split) <;> simp

@[simp] theorem fireArmed_frame (s : State) :
    (fireArmed s).pending = s.pending ∧ (fireArmed s).links = s.links ∧ (fireArmed s).force.tare = s.force.tare ∧
    (fireArmed s).force.f = s.force.f ∧ (fireArmed s).force.tareOp = s.force.tareOp ∧
    (fireArmed s).force.uncal = s.force.uncal ∧ (fireArmed s).strain.specimen = s.strain.specimen ∧
    (fireArmed s).strain.stress = s.strain.stress ∧ (fireArmed s).strain.stressSat = s.strain.stressSat ∧
    (fireArmed s).strain.setSource = s.strain.setSource ∧
    (fireArmed s).motion.encCount = s.motion.encCount ∧ (fireArmed s).motion.softLower = s.motion.softLower ∧
    (fireArmed s).motion.softUpper = s.motion.softUpper ∧ (fireArmed s).motion.sign = s.motion.sign ∧
    (fireArmed s).motion.refX = s.motion.refX ∧ (fireArmed s).motion.encA = s.motion.encA ∧
    (fireArmed s).motion.encB = s.motion.encB ∧ (fireArmed s).motion.encErrors = s.motion.encErrors ∧
    (fireArmed s).motion.periodDue = s.motion.periodDue ∧ (fireArmed s).motion.dwell = s.motion.dwell ∧
    (fireArmed s).motion.zeroRun = s.motion.zeroRun ∧ (fireArmed s).motion.blind = s.motion.blind ∧
    (fireArmed s).motion.lastWord = s.motion.lastWord ∧ (fireArmed s).loop.gPos = s.loop.gPos ∧
    (fireArmed s).loop.gStress = s.loop.gStress ∧ (fireArmed s).loop.gStrain = s.loop.gStrain ∧
    (fireArmed s).prot.latched = s.prot.latched ∧ (fireArmed s).prot.overload = s.prot.overload ∧
    (fireArmed s).prot.gripCount = s.prot.gripCount ∧ (fireArmed s).seq.method = s.seq.method ∧
    (fireArmed s).seq.phases = s.seq.phases ∧ (fireArmed s).router.routes = s.router.routes ∧
    (fireArmed s).ins = s.ins ∧ (fireArmed s).log.interval = s.log.interval ∧
    (fireArmed s).log.stream = s.log.stream ∧ (fireArmed s).log.firstSkipped = s.log.firstSkipped ∧
    (fireArmed s).time.sec = s.time.sec ∧ (fireArmed s).time.ns = s.time.ns ∧
    (fireArmed s).time.frac = s.time.frac ∧ (fireArmed s).time.step = s.time.step ∧
    (fireArmed s).time.trim = s.time.trim ∧ (fireArmed s).time.crystal = s.time.crystal ∧
    (fireArmed s).host = s.host ∧ (fireArmed s).store = s.store ∧ (fireArmed s).free = s.free := by
  simp only [fireArmed]; (repeat' split) <;> simp

@[simp] theorem triggerSeq_frame (n : Nat) (s : State) :
    (triggerSeq n s).pending = s.pending ∧ (triggerSeq n s).links = s.links ∧
    (triggerSeq n s).force.tare = s.force.tare ∧ (triggerSeq n s).force.f = s.force.f ∧
    (triggerSeq n s).force.tareOp = s.force.tareOp ∧ (triggerSeq n s).force.uncal = s.force.uncal ∧
    (triggerSeq n s).strain.specimen = s.strain.specimen ∧ (triggerSeq n s).strain.stress = s.strain.stress ∧
    (triggerSeq n s).strain.stressSat = s.strain.stressSat ∧
    (triggerSeq n s).strain.setSource = s.strain.setSource ∧ (triggerSeq n s).motion.encCount = s.motion.encCount ∧
    (triggerSeq n s).motion.softLower = s.motion.softLower ∧
    (triggerSeq n s).motion.softUpper = s.motion.softUpper ∧ (triggerSeq n s).motion.sign = s.motion.sign ∧
    (triggerSeq n s).motion.refX = s.motion.refX ∧ (triggerSeq n s).motion.encA = s.motion.encA ∧
    (triggerSeq n s).motion.encB = s.motion.encB ∧ (triggerSeq n s).motion.encErrors = s.motion.encErrors ∧
    (triggerSeq n s).motion.periodDue = s.motion.periodDue ∧ (triggerSeq n s).motion.dwell = s.motion.dwell ∧
    (triggerSeq n s).motion.zeroRun = s.motion.zeroRun ∧ (triggerSeq n s).motion.blind = s.motion.blind ∧
    (triggerSeq n s).motion.lastWord = s.motion.lastWord ∧ (triggerSeq n s).loop.gPos = s.loop.gPos ∧
    (triggerSeq n s).loop.gStress = s.loop.gStress ∧ (triggerSeq n s).loop.gStrain = s.loop.gStrain ∧
    (triggerSeq n s).prot.latched = s.prot.latched ∧ (triggerSeq n s).prot.overload = s.prot.overload ∧
    (triggerSeq n s).prot.gripCount = s.prot.gripCount ∧ (triggerSeq n s).seq.method = s.seq.method ∧
    (triggerSeq n s).seq.phases = s.seq.phases ∧ (triggerSeq n s).router.routes = s.router.routes ∧
    (triggerSeq n s).ins = s.ins ∧ (triggerSeq n s).log.interval = s.log.interval ∧
    (triggerSeq n s).log.stream = s.log.stream ∧ (triggerSeq n s).log.firstSkipped = s.log.firstSkipped ∧
    (triggerSeq n s).time.sec = s.time.sec ∧ (triggerSeq n s).time.ns = s.time.ns ∧
    (triggerSeq n s).time.frac = s.time.frac ∧ (triggerSeq n s).time.step = s.time.step ∧
    (triggerSeq n s).time.trim = s.time.trim ∧ (triggerSeq n s).time.crystal = s.time.crystal ∧
    (triggerSeq n s).host = s.host ∧ (triggerSeq n s).store = s.store ∧ (triggerSeq n s).free = s.free := by
  simp only [triggerSeq]; (repeat' split) <;> simp

@[simp] theorem triggerLog_frame (n : Nat) (s : State) :
    (triggerLog n s).pending = s.pending ∧ (triggerLog n s).links = s.links ∧ (triggerLog n s).force = s.force ∧
    (triggerLog n s).strain = s.strain ∧ (triggerLog n s).ext = s.ext ∧ (triggerLog n s).motion = s.motion ∧
    (triggerLog n s).loop = s.loop ∧ (triggerLog n s).prot = s.prot ∧ (triggerLog n s).seq = s.seq ∧
    (triggerLog n s).mon = s.mon ∧ (triggerLog n s).router.routes = s.router.routes ∧
    (triggerLog n s).router.notices = s.router.notices ∧ (triggerLog n s).router.lost = s.router.lost ∧
    (triggerLog n s).ins = s.ins ∧ (triggerLog n s).outs = s.outs ∧ (triggerLog n s).result = s.result ∧
    (triggerLog n s).log.ring = s.log.ring ∧ (triggerLog n s).log.interval = s.log.interval ∧
    (triggerLog n s).log.seqNo = s.log.seqNo ∧ (triggerLog n s).log.gap = s.log.gap ∧
    (triggerLog n s).log.stream = s.log.stream ∧ (triggerLog n s).log.firstSkipped = s.log.firstSkipped ∧
    (triggerLog n s).time = s.time ∧ (triggerLog n s).host = s.host ∧ (triggerLog n s).store = s.store ∧
    (triggerLog n s).free = s.free := by
  simp only [triggerLog]; (repeat' split) <;> simp

@[simp] theorem giveTrigger_frame (n : Nat) (s : State) :
    (giveTrigger n s).pending = s.pending ∧ (giveTrigger n s).links = s.links ∧
    (giveTrigger n s).force.tare = s.force.tare ∧ (giveTrigger n s).force.f = s.force.f ∧
    (giveTrigger n s).force.tareOp = s.force.tareOp ∧ (giveTrigger n s).force.uncal = s.force.uncal ∧
    (giveTrigger n s).strain.specimen = s.strain.specimen ∧ (giveTrigger n s).strain.stress = s.strain.stress ∧
    (giveTrigger n s).strain.stressSat = s.strain.stressSat ∧
    (giveTrigger n s).strain.setSource = s.strain.setSource ∧
    (giveTrigger n s).motion.encCount = s.motion.encCount ∧
    (giveTrigger n s).motion.softLower = s.motion.softLower ∧
    (giveTrigger n s).motion.softUpper = s.motion.softUpper ∧ (giveTrigger n s).motion.sign = s.motion.sign ∧
    (giveTrigger n s).motion.encA = s.motion.encA ∧ (giveTrigger n s).motion.encB = s.motion.encB ∧
    (giveTrigger n s).motion.encErrors = s.motion.encErrors ∧
    (giveTrigger n s).motion.periodDue = s.motion.periodDue ∧ (giveTrigger n s).motion.dwell = s.motion.dwell ∧
    (giveTrigger n s).motion.zeroRun = s.motion.zeroRun ∧ (giveTrigger n s).motion.blind = s.motion.blind ∧
    (giveTrigger n s).motion.lastWord = s.motion.lastWord ∧ (giveTrigger n s).loop.gPos = s.loop.gPos ∧
    (giveTrigger n s).loop.gStress = s.loop.gStress ∧ (giveTrigger n s).loop.gStrain = s.loop.gStrain ∧
    (giveTrigger n s).prot.latched = s.prot.latched ∧ (giveTrigger n s).prot.overload = s.prot.overload ∧
    (giveTrigger n s).prot.gripCount = s.prot.gripCount ∧ (giveTrigger n s).seq.method = s.seq.method ∧
    (giveTrigger n s).seq.phases = s.seq.phases ∧ (giveTrigger n s).router.routes = s.router.routes ∧
    (giveTrigger n s).ins = s.ins ∧ (giveTrigger n s).log.interval = s.log.interval ∧
    (giveTrigger n s).log.stream = s.log.stream ∧ (giveTrigger n s).log.firstSkipped = s.log.firstSkipped ∧
    (giveTrigger n s).time.sec = s.time.sec ∧ (giveTrigger n s).time.ns = s.time.ns ∧
    (giveTrigger n s).time.frac = s.time.frac ∧ (giveTrigger n s).time.step = s.time.step ∧
    (giveTrigger n s).time.trim = s.time.trim ∧ (giveTrigger n s).time.crystal = s.time.crystal ∧
    (giveTrigger n s).host = s.host ∧ (giveTrigger n s).store = s.store ∧ (giveTrigger n s).free = s.free := by
  simp [giveTrigger]

@[simp] theorem withdrawReasons_frame (s : State) :
    (withdrawReasons s).pending = s.pending ∧ (withdrawReasons s).links = s.links ∧
    (withdrawReasons s).force = s.force ∧ (withdrawReasons s).strain = s.strain ∧ (withdrawReasons s).ext = s.ext ∧
    (withdrawReasons s).motion = s.motion ∧ (withdrawReasons s).loop = s.loop ∧ (withdrawReasons s).prot = s.prot ∧
    (withdrawReasons s).seq.state = s.seq.state ∧ (withdrawReasons s).seq.method = s.seq.method ∧
    (withdrawReasons s).seq.phases = s.seq.phases ∧ (withdrawReasons s).seq.phase = s.seq.phase ∧
    (withdrawReasons s).seq.armedTrigger = s.seq.armedTrigger ∧
    (withdrawReasons s).seq.fractured = s.seq.fractured ∧ (withdrawReasons s).seq.endReason = s.seq.endReason ∧
    (withdrawReasons s).seq.abortCause = s.seq.abortCause ∧
    (withdrawReasons s).seq.pendingExit = s.seq.pendingExit ∧
    (withdrawReasons s).seq.phaseStart = s.seq.phaseStart ∧ (withdrawReasons s).mon = s.mon ∧
    (withdrawReasons s).router = s.router ∧ (withdrawReasons s).ins = s.ins ∧ (withdrawReasons s).outs = s.outs ∧
    (withdrawReasons s).result = s.result ∧ (withdrawReasons s).log = s.log ∧ (withdrawReasons s).time = s.time ∧
    (withdrawReasons s).host = s.host ∧ (withdrawReasons s).store = s.store ∧ (withdrawReasons s).free = s.free := by
  simp [withdrawReasons]

@[simp] theorem clearTest_frame (s : State) :
    (clearTest s).pending = s.pending ∧ (clearTest s).links = s.links ∧ (clearTest s).force = s.force ∧
    (clearTest s).strain = s.strain ∧ (clearTest s).ext.removeRequest = s.ext.removeRequest ∧
    (clearTest s).ext.slipM = s.ext.slipM ∧ (clearTest s).ext.slipX = s.ext.slipX ∧
    (clearTest s).motion = s.motion ∧ (clearTest s).loop = s.loop ∧ (clearTest s).prot = s.prot ∧
    (clearTest s).seq.method = s.seq.method ∧ (clearTest s).seq.phases = s.seq.phases ∧
    (clearTest s).seq.held = s.seq.held ∧ (clearTest s).seq.armedTrigger = s.seq.armedTrigger ∧
    (clearTest s).seq.pendingExit = s.seq.pendingExit ∧ (clearTest s).seq.phaseStart = s.seq.phaseStart ∧
    (clearTest s).mon = s.mon ∧ (clearTest s).router = s.router ∧ (clearTest s).ins = s.ins ∧
    (clearTest s).outs = s.outs ∧ (clearTest s).result.n = s.result.n ∧
    (clearTest s).result.fracArmed = s.result.fracArmed ∧ (clearTest s).log = s.log ∧ (clearTest s).time = s.time ∧
    (clearTest s).host = s.host ∧ (clearTest s).store = s.store ∧ (clearTest s).free = s.free := by
  simp [clearTest]

@[simp] theorem doPhaseTimerExpiry_frame (s : State) :
    (doPhaseTimerExpiry s).pending = s.pending ∧ (doPhaseTimerExpiry s).links = s.links ∧
    (doPhaseTimerExpiry s).force = s.force ∧ (doPhaseTimerExpiry s).strain.specimen = s.strain.specimen ∧
    (doPhaseTimerExpiry s).strain.stress = s.strain.stress ∧
    (doPhaseTimerExpiry s).strain.stressSat = s.strain.stressSat ∧
    (doPhaseTimerExpiry s).strain.setSource = s.strain.setSource ∧
    (doPhaseTimerExpiry s).motion.encCount = s.motion.encCount ∧
    (doPhaseTimerExpiry s).motion.softLower = s.motion.softLower ∧
    (doPhaseTimerExpiry s).motion.softUpper = s.motion.softUpper ∧
    (doPhaseTimerExpiry s).motion.sign = s.motion.sign ∧ (doPhaseTimerExpiry s).motion.refX = s.motion.refX ∧
    (doPhaseTimerExpiry s).motion.encA = s.motion.encA ∧ (doPhaseTimerExpiry s).motion.encB = s.motion.encB ∧
    (doPhaseTimerExpiry s).motion.encErrors = s.motion.encErrors ∧
    (doPhaseTimerExpiry s).motion.periodDue = s.motion.periodDue ∧
    (doPhaseTimerExpiry s).motion.dwell = s.motion.dwell ∧
    (doPhaseTimerExpiry s).motion.zeroRun = s.motion.zeroRun ∧
    (doPhaseTimerExpiry s).motion.blind = s.motion.blind ∧
    (doPhaseTimerExpiry s).motion.lastWord = s.motion.lastWord ∧ (doPhaseTimerExpiry s).loop.gPos = s.loop.gPos ∧
    (doPhaseTimerExpiry s).loop.gStress = s.loop.gStress ∧ (doPhaseTimerExpiry s).loop.gStrain = s.loop.gStrain ∧
    (doPhaseTimerExpiry s).prot.latched = s.prot.latched ∧ (doPhaseTimerExpiry s).prot.overload = s.prot.overload ∧
    (doPhaseTimerExpiry s).prot.gripCount = s.prot.gripCount ∧ (doPhaseTimerExpiry s).seq.method = s.seq.method ∧
    (doPhaseTimerExpiry s).seq.phases = s.seq.phases ∧
    (doPhaseTimerExpiry s).seq.armedTrigger = s.seq.armedTrigger ∧
    (doPhaseTimerExpiry s).seq.fractured = s.seq.fractured ∧
    (doPhaseTimerExpiry s).seq.abortCause = s.seq.abortCause ∧
    (doPhaseTimerExpiry s).router.routes = s.router.routes ∧ (doPhaseTimerExpiry s).ins = s.ins ∧
    (doPhaseTimerExpiry s).log.interval = s.log.interval ∧ (doPhaseTimerExpiry s).log.seqNo = s.log.seqNo ∧
    (doPhaseTimerExpiry s).log.stream = s.log.stream ∧
    (doPhaseTimerExpiry s).log.firstSkipped = s.log.firstSkipped ∧
    (doPhaseTimerExpiry s).time.testTime = s.time.testTime ∧ (doPhaseTimerExpiry s).time.sec = s.time.sec ∧
    (doPhaseTimerExpiry s).time.ns = s.time.ns ∧ (doPhaseTimerExpiry s).time.frac = s.time.frac ∧
    (doPhaseTimerExpiry s).time.step = s.time.step ∧ (doPhaseTimerExpiry s).time.trim = s.time.trim ∧
    (doPhaseTimerExpiry s).time.crystal = s.time.crystal ∧ (doPhaseTimerExpiry s).time.msSeen = s.time.msSeen ∧
    (doPhaseTimerExpiry s).host.rx = s.host.rx ∧ (doPhaseTimerExpiry s).host.replies = s.host.replies ∧
    (doPhaseTimerExpiry s).host.goodFrames = s.host.goodFrames ∧
    (doPhaseTimerExpiry s).host.crcErrors = s.host.crcErrors ∧
    (doPhaseTimerExpiry s).host.framingErrors = s.host.framingErrors ∧
    (doPhaseTimerExpiry s).host.overruns = s.host.overruns ∧
    (doPhaseTimerExpiry s).host.framesSent = s.host.framesSent ∧
    (doPhaseTimerExpiry s).host.resetPending = s.host.resetPending ∧ (doPhaseTimerExpiry s).store = s.store ∧
    (doPhaseTimerExpiry s).free = s.free := by
  simp only [doPhaseTimerExpiry]; (repeat' split) <;> simp

@[simp] theorem doRemovalTimerExpiry_frame (s : State) :
    (doRemovalTimerExpiry s).pending = s.pending ∧ (doRemovalTimerExpiry s).links = s.links ∧
    (doRemovalTimerExpiry s).force = s.force ∧ (doRemovalTimerExpiry s).strain = s.strain ∧
    (doRemovalTimerExpiry s).motion.encCount = s.motion.encCount ∧
    (doRemovalTimerExpiry s).motion.softLower = s.motion.softLower ∧
    (doRemovalTimerExpiry s).motion.softUpper = s.motion.softUpper ∧
    (doRemovalTimerExpiry s).motion.sign = s.motion.sign ∧ (doRemovalTimerExpiry s).motion.refX = s.motion.refX ∧
    (doRemovalTimerExpiry s).motion.encA = s.motion.encA ∧ (doRemovalTimerExpiry s).motion.encB = s.motion.encB ∧
    (doRemovalTimerExpiry s).motion.encErrors = s.motion.encErrors ∧
    (doRemovalTimerExpiry s).motion.periodDue = s.motion.periodDue ∧
    (doRemovalTimerExpiry s).motion.dwell = s.motion.dwell ∧
    (doRemovalTimerExpiry s).motion.zeroRun = s.motion.zeroRun ∧
    (doRemovalTimerExpiry s).motion.blind = s.motion.blind ∧
    (doRemovalTimerExpiry s).motion.lastWord = s.motion.lastWord ∧
    (doRemovalTimerExpiry s).loop.gPos = s.loop.gPos ∧ (doRemovalTimerExpiry s).loop.gStress = s.loop.gStress ∧
    (doRemovalTimerExpiry s).loop.gStrain = s.loop.gStrain ∧
    (doRemovalTimerExpiry s).prot.latched = s.prot.latched ∧
    (doRemovalTimerExpiry s).prot.overload = s.prot.overload ∧
    (doRemovalTimerExpiry s).prot.gripCount = s.prot.gripCount ∧
    (doRemovalTimerExpiry s).seq.method = s.seq.method ∧ (doRemovalTimerExpiry s).seq.phases = s.seq.phases ∧
    (doRemovalTimerExpiry s).seq.phase = s.seq.phase ∧
    (doRemovalTimerExpiry s).seq.armedTrigger = s.seq.armedTrigger ∧
    (doRemovalTimerExpiry s).seq.fractured = s.seq.fractured ∧
    (doRemovalTimerExpiry s).seq.endReason = s.seq.endReason ∧
    (doRemovalTimerExpiry s).seq.abortCause = s.seq.abortCause ∧
    (doRemovalTimerExpiry s).seq.pendingExit = s.seq.pendingExit ∧
    (doRemovalTimerExpiry s).seq.phaseStart = s.seq.phaseStart ∧ (doRemovalTimerExpiry s).mon = s.mon ∧
    (doRemovalTimerExpiry s).router.routes = s.router.routes ∧ (doRemovalTimerExpiry s).ins = s.ins ∧
    (doRemovalTimerExpiry s).result.n = s.result.n ∧
    (doRemovalTimerExpiry s).result.fracArmed = s.result.fracArmed ∧
    (doRemovalTimerExpiry s).log.interval = s.log.interval ∧ (doRemovalTimerExpiry s).log.seqNo = s.log.seqNo ∧
    (doRemovalTimerExpiry s).log.stream = s.log.stream ∧
    (doRemovalTimerExpiry s).log.firstSkipped = s.log.firstSkipped ∧
    (doRemovalTimerExpiry s).time.testTime = s.time.testTime ∧ (doRemovalTimerExpiry s).time.sec = s.time.sec ∧
    (doRemovalTimerExpiry s).time.ns = s.time.ns ∧ (doRemovalTimerExpiry s).time.frac = s.time.frac ∧
    (doRemovalTimerExpiry s).time.step = s.time.step ∧ (doRemovalTimerExpiry s).time.trim = s.time.trim ∧
    (doRemovalTimerExpiry s).time.crystal = s.time.crystal ∧ (doRemovalTimerExpiry s).time.msSeen = s.time.msSeen ∧
    (doRemovalTimerExpiry s).host.rx = s.host.rx ∧ (doRemovalTimerExpiry s).host.replies = s.host.replies ∧
    (doRemovalTimerExpiry s).host.goodFrames = s.host.goodFrames ∧
    (doRemovalTimerExpiry s).host.crcErrors = s.host.crcErrors ∧
    (doRemovalTimerExpiry s).host.framingErrors = s.host.framingErrors ∧
    (doRemovalTimerExpiry s).host.overruns = s.host.overruns ∧
    (doRemovalTimerExpiry s).host.framesSent = s.host.framesSent ∧
    (doRemovalTimerExpiry s).host.resetPending = s.host.resetPending ∧ (doRemovalTimerExpiry s).store = s.store ∧
    (doRemovalTimerExpiry s).free = s.free := by
  simp only [doRemovalTimerExpiry]; (repeat' split) <;> simp

/-! ## LogTime -/

@[simp] theorem storeSample_frame (n : Nat) (s : State) :
    (storeSample n s).pending = s.pending ∧ (storeSample n s).links = s.links ∧ (storeSample n s).force = s.force ∧
    (storeSample n s).strain = s.strain ∧ (storeSample n s).ext = s.ext ∧ (storeSample n s).motion = s.motion ∧
    (storeSample n s).loop = s.loop ∧ (storeSample n s).prot = s.prot ∧ (storeSample n s).seq = s.seq ∧
    (storeSample n s).mon = s.mon ∧ (storeSample n s).router = s.router ∧ (storeSample n s).ins = s.ins ∧
    (storeSample n s).outs = s.outs ∧ (storeSample n s).result = s.result ∧
    (storeSample n s).log.state = s.log.state ∧ (storeSample n s).log.interval = s.log.interval ∧
    (storeSample n s).log.due = s.log.due ∧ (storeSample n s).log.seqNo = s.log.seqNo ∧
    (storeSample n s).log.gap = s.log.gap ∧ (storeSample n s).log.stream = s.log.stream ∧
    (storeSample n s).log.firstSkipped = s.log.firstSkipped ∧ (storeSample n s).time = s.time ∧
    (storeSample n s).host = s.host ∧ (storeSample n s).store = s.store ∧ (storeSample n s).free = s.free := by
  simp [storeSample]

@[simp] theorem skipSample_frame (n : Nat) (s : State) :
    (skipSample n s).pending = s.pending ∧ (skipSample n s).links = s.links ∧ (skipSample n s).force = s.force ∧
    (skipSample n s).strain = s.strain ∧ (skipSample n s).ext = s.ext ∧ (skipSample n s).motion = s.motion ∧
    (skipSample n s).loop = s.loop ∧ (skipSample n s).prot = s.prot ∧ (skipSample n s).seq = s.seq ∧
    (skipSample n s).mon = s.mon ∧ (skipSample n s).router = s.router ∧ (skipSample n s).ins = s.ins ∧
    (skipSample n s).outs = s.outs ∧ (skipSample n s).result.n = s.result.n ∧
    (skipSample n s).result.fracArmed = s.result.fracArmed ∧ (skipSample n s).log.ring = s.log.ring ∧
    (skipSample n s).log.state = s.log.state ∧ (skipSample n s).log.interval = s.log.interval ∧
    (skipSample n s).log.due = s.log.due ∧ (skipSample n s).log.seqNo = s.log.seqNo ∧
    (skipSample n s).log.stream = s.log.stream ∧ (skipSample n s).time = s.time ∧ (skipSample n s).host = s.host ∧
    (skipSample n s).store = s.store ∧ (skipSample n s).free = s.free := by
  simp only [skipSample]; (repeat' split) <;> simp

@[simp] theorem sampleDue_frame (s : State) :
    (sampleDue s).pending = s.pending ∧ (sampleDue s).links = s.links ∧ (sampleDue s).force = s.force ∧
    (sampleDue s).strain = s.strain ∧ (sampleDue s).ext = s.ext ∧ (sampleDue s).motion = s.motion ∧
    (sampleDue s).loop = s.loop ∧ (sampleDue s).prot = s.prot ∧ (sampleDue s).seq = s.seq ∧
    (sampleDue s).mon = s.mon ∧ (sampleDue s).router.routes = s.router.routes ∧
    (sampleDue s).router.notices = s.router.notices ∧ (sampleDue s).router.lost = s.router.lost ∧
    (sampleDue s).ins = s.ins ∧ (sampleDue s).outs = s.outs ∧ (sampleDue s).result.n = s.result.n ∧
    (sampleDue s).result.fracArmed = s.result.fracArmed ∧ (sampleDue s).log.interval = s.log.interval ∧
    (sampleDue s).log.stream = s.log.stream ∧ (sampleDue s).time = s.time ∧ (sampleDue s).host = s.host ∧
    (sampleDue s).store = s.store ∧ (sampleDue s).free = s.free := by
  simp only [sampleDue]; (repeat' split) <;> simp

@[simp] theorem doLogIntervalExpiry_frame (s : State) :
    (doLogIntervalExpiry s).pending = s.pending ∧ (doLogIntervalExpiry s).links = s.links ∧
    (doLogIntervalExpiry s).force = s.force ∧ (doLogIntervalExpiry s).strain = s.strain ∧
    (doLogIntervalExpiry s).ext.primary = s.ext.primary ∧ (doLogIntervalExpiry s).ext.secondary = s.ext.secondary ∧
    (doLogIntervalExpiry s).ext.removal = s.ext.removal ∧ (doLogIntervalExpiry s).ext.slipM = s.ext.slipM ∧
    (doLogIntervalExpiry s).ext.slipX = s.ext.slipX ∧ (doLogIntervalExpiry s).motion.encCount = s.motion.encCount ∧
    (doLogIntervalExpiry s).motion.softLower = s.motion.softLower ∧
    (doLogIntervalExpiry s).motion.softUpper = s.motion.softUpper ∧
    (doLogIntervalExpiry s).motion.sign = s.motion.sign ∧ (doLogIntervalExpiry s).motion.refX = s.motion.refX ∧
    (doLogIntervalExpiry s).motion.encA = s.motion.encA ∧ (doLogIntervalExpiry s).motion.encB = s.motion.encB ∧
    (doLogIntervalExpiry s).motion.encErrors = s.motion.encErrors ∧
    (doLogIntervalExpiry s).motion.periodDue = s.motion.periodDue ∧
    (doLogIntervalExpiry s).motion.dwell = s.motion.dwell ∧
    (doLogIntervalExpiry s).motion.zeroRun = s.motion.zeroRun ∧
    (doLogIntervalExpiry s).motion.blind = s.motion.blind ∧
    (doLogIntervalExpiry s).motion.lastWord = s.motion.lastWord ∧ (doLogIntervalExpiry s).loop.gPos = s.loop.gPos ∧
    (doLogIntervalExpiry s).loop.gStress = s.loop.gStress ∧ (doLogIntervalExpiry s).loop.gStrain = s.loop.gStrain ∧
    (doLogIntervalExpiry s).prot.latched = s.prot.latched ∧
    (doLogIntervalExpiry s).prot.overload = s.prot.overload ∧
    (doLogIntervalExpiry s).prot.gripCount = s.prot.gripCount ∧ (doLogIntervalExpiry s).seq.method = s.seq.method ∧
    (doLogIntervalExpiry s).seq.phases = s.seq.phases ∧ (doLogIntervalExpiry s).seq.phase = s.seq.phase ∧
    (doLogIntervalExpiry s).seq.armedTrigger = s.seq.armedTrigger ∧
    (doLogIntervalExpiry s).seq.fractured = s.seq.fractured ∧
    (doLogIntervalExpiry s).seq.endReason = s.seq.endReason ∧
    (doLogIntervalExpiry s).seq.abortCause = s.seq.abortCause ∧
    (doLogIntervalExpiry s).seq.pendingExit = s.seq.pendingExit ∧
    (doLogIntervalExpiry s).seq.phaseStart = s.seq.phaseStart ∧ (doLogIntervalExpiry s).mon = s.mon ∧
    (doLogIntervalExpiry s).router.routes = s.router.routes ∧ (doLogIntervalExpiry s).ins = s.ins ∧
    (doLogIntervalExpiry s).result.n = s.result.n ∧ (doLogIntervalExpiry s).result.fracArmed = s.result.fracArmed ∧
    (doLogIntervalExpiry s).log.interval = s.log.interval ∧ (doLogIntervalExpiry s).log.stream = s.log.stream ∧
    (doLogIntervalExpiry s).time.testTime = s.time.testTime ∧ (doLogIntervalExpiry s).time.sec = s.time.sec ∧
    (doLogIntervalExpiry s).time.ns = s.time.ns ∧ (doLogIntervalExpiry s).time.frac = s.time.frac ∧
    (doLogIntervalExpiry s).time.step = s.time.step ∧ (doLogIntervalExpiry s).time.trim = s.time.trim ∧
    (doLogIntervalExpiry s).time.crystal = s.time.crystal ∧ (doLogIntervalExpiry s).time.msSeen = s.time.msSeen ∧
    (doLogIntervalExpiry s).host.rx = s.host.rx ∧ (doLogIntervalExpiry s).host.replies = s.host.replies ∧
    (doLogIntervalExpiry s).host.goodFrames = s.host.goodFrames ∧
    (doLogIntervalExpiry s).host.crcErrors = s.host.crcErrors ∧
    (doLogIntervalExpiry s).host.framingErrors = s.host.framingErrors ∧
    (doLogIntervalExpiry s).host.overruns = s.host.overruns ∧
    (doLogIntervalExpiry s).host.framesSent = s.host.framesSent ∧
    (doLogIntervalExpiry s).host.resetPending = s.host.resetPending ∧ (doLogIntervalExpiry s).store = s.store ∧
    (doLogIntervalExpiry s).free = s.free := by
  simp only [doLogIntervalExpiry]; (repeat' split) <;> simp

@[simp] theorem doTestTimeMsTick_frame (s : State) :
    (doTestTimeMsTick s).pending = s.pending ∧ (doTestTimeMsTick s).links = s.links ∧
    (doTestTimeMsTick s).force = s.force ∧ (doTestTimeMsTick s).strain.specimen = s.strain.specimen ∧
    (doTestTimeMsTick s).strain.stress = s.strain.stress ∧
    (doTestTimeMsTick s).strain.stressSat = s.strain.stressSat ∧
    (doTestTimeMsTick s).strain.setSource = s.strain.setSource ∧
    (doTestTimeMsTick s).motion.encCount = s.motion.encCount ∧
    (doTestTimeMsTick s).motion.softLower = s.motion.softLower ∧
    (doTestTimeMsTick s).motion.softUpper = s.motion.softUpper ∧ (doTestTimeMsTick s).motion.sign = s.motion.sign ∧
    (doTestTimeMsTick s).motion.refX = s.motion.refX ∧ (doTestTimeMsTick s).motion.encA = s.motion.encA ∧
    (doTestTimeMsTick s).motion.encB = s.motion.encB ∧ (doTestTimeMsTick s).motion.encErrors = s.motion.encErrors ∧
    (doTestTimeMsTick s).motion.periodDue = s.motion.periodDue ∧
    (doTestTimeMsTick s).motion.dwell = s.motion.dwell ∧ (doTestTimeMsTick s).motion.zeroRun = s.motion.zeroRun ∧
    (doTestTimeMsTick s).motion.blind = s.motion.blind ∧ (doTestTimeMsTick s).motion.lastWord = s.motion.lastWord ∧
    (doTestTimeMsTick s).loop.gPos = s.loop.gPos ∧ (doTestTimeMsTick s).loop.gStress = s.loop.gStress ∧
    (doTestTimeMsTick s).loop.gStrain = s.loop.gStrain ∧ (doTestTimeMsTick s).prot.latched = s.prot.latched ∧
    (doTestTimeMsTick s).prot.overload = s.prot.overload ∧ (doTestTimeMsTick s).prot.gripCount = s.prot.gripCount ∧
    (doTestTimeMsTick s).seq.method = s.seq.method ∧ (doTestTimeMsTick s).seq.phases = s.seq.phases ∧
    (doTestTimeMsTick s).seq.armedTrigger = s.seq.armedTrigger ∧
    (doTestTimeMsTick s).seq.fractured = s.seq.fractured ∧ (doTestTimeMsTick s).seq.abortCause = s.seq.abortCause ∧
    (doTestTimeMsTick s).router.routes = s.router.routes ∧ (doTestTimeMsTick s).ins = s.ins ∧
    (doTestTimeMsTick s).log.interval = s.log.interval ∧ (doTestTimeMsTick s).log.seqNo = s.log.seqNo ∧
    (doTestTimeMsTick s).log.stream = s.log.stream ∧ (doTestTimeMsTick s).log.firstSkipped = s.log.firstSkipped ∧
    (doTestTimeMsTick s).time.sec = s.time.sec ∧ (doTestTimeMsTick s).time.ns = s.time.ns ∧
    (doTestTimeMsTick s).time.frac = s.time.frac ∧ (doTestTimeMsTick s).time.step = s.time.step ∧
    (doTestTimeMsTick s).time.trim = s.time.trim ∧ (doTestTimeMsTick s).host.rx = s.host.rx ∧
    (doTestTimeMsTick s).host.replies = s.host.replies ∧ (doTestTimeMsTick s).host.goodFrames = s.host.goodFrames ∧
    (doTestTimeMsTick s).host.crcErrors = s.host.crcErrors ∧
    (doTestTimeMsTick s).host.framingErrors = s.host.framingErrors ∧
    (doTestTimeMsTick s).host.overruns = s.host.overruns ∧
    (doTestTimeMsTick s).host.framesSent = s.host.framesSent ∧
    (doTestTimeMsTick s).host.resetPending = s.host.resetPending ∧ (doTestTimeMsTick s).store = s.store ∧
    (doTestTimeMsTick s).free = s.free := by
  refine ⟨?_, ?_, ?_, ?_, ?_, ?_, ?_, ?_, ?_, ?_, ?_, ?_, ?_, ?_, ?_, ?_, ?_, ?_, ?_, ?_, ?_, ?_, ?_, ?_,
      ?_, ?_, ?_, ?_, ?_, ?_, ?_, ?_, ?_, ?_, ?_, ?_, ?_, ?_, ?_, ?_, ?_, ?_, ?_, ?_, ?_, ?_, ?_,
      ?_, ?_, ?_, ?_, ?_⟩ <;> (unfold doTestTimeMsTick; dsimp only; split <;> simp only [settle_frame, giveFirings_frame, evalMonitors_frame])

/-! ## Inputs -/

@[simp] theorem updInput_frame (k : Fin 8) (g : Input → Input) (s : State) :
    (updInput k g s).pending = s.pending ∧ (updInput k g s).links = s.links ∧ (updInput k g s).force = s.force ∧
    (updInput k g s).strain = s.strain ∧ (updInput k g s).ext = s.ext ∧ (updInput k g s).motion = s.motion ∧
    (updInput k g s).loop = s.loop ∧ (updInput k g s).prot = s.prot ∧ (updInput k g s).seq = s.seq ∧
    (updInput k g s).mon = s.mon ∧ (updInput k g s).router = s.router ∧ (updInput k g s).outs = s.outs ∧
    (updInput k g s).result = s.result ∧ (updInput k g s).log = s.log ∧ (updInput k g s).time = s.time ∧
    (updInput k g s).host = s.host ∧ (updInput k g s).store = s.store ∧ (updInput k g s).free = s.free := by
  simp [updInput]

@[simp] theorem breakEdge_frame (s : State) :
    (breakEdge s).pending = s.pending ∧ (breakEdge s).links = s.links ∧ (breakEdge s).force = s.force ∧
    (breakEdge s).strain = s.strain ∧ (breakEdge s).ext.secondary = s.ext.secondary ∧
    (breakEdge s).ext.slipM = s.ext.slipM ∧ (breakEdge s).ext.slipX = s.ext.slipX ∧
    (breakEdge s).motion.encCount = s.motion.encCount ∧ (breakEdge s).motion.softLower = s.motion.softLower ∧
    (breakEdge s).motion.softUpper = s.motion.softUpper ∧ (breakEdge s).motion.sign = s.motion.sign ∧
    (breakEdge s).motion.refX = s.motion.refX ∧ (breakEdge s).motion.encA = s.motion.encA ∧
    (breakEdge s).motion.encB = s.motion.encB ∧ (breakEdge s).motion.encErrors = s.motion.encErrors ∧
    (breakEdge s).motion.periodDue = s.motion.periodDue ∧ (breakEdge s).motion.dwell = s.motion.dwell ∧
    (breakEdge s).motion.zeroRun = s.motion.zeroRun ∧ (breakEdge s).motion.blind = s.motion.blind ∧
    (breakEdge s).motion.lastWord = s.motion.lastWord ∧ (breakEdge s).loop.gPos = s.loop.gPos ∧
    (breakEdge s).loop.gStress = s.loop.gStress ∧ (breakEdge s).loop.gStrain = s.loop.gStrain ∧
    (breakEdge s).loop.target = s.loop.target ∧ (breakEdge s).prot.latched = s.prot.latched ∧
    (breakEdge s).prot.overload = s.prot.overload ∧ (breakEdge s).prot.gripCount = s.prot.gripCount ∧
    (breakEdge s).seq.method = s.seq.method ∧ (breakEdge s).seq.phases = s.seq.phases ∧
    (breakEdge s).seq.phase = s.seq.phase ∧ (breakEdge s).seq.armedTrigger = s.seq.armedTrigger ∧
    (breakEdge s).seq.abortCause = s.seq.abortCause ∧ (breakEdge s).mon = s.mon ∧
    (breakEdge s).router.routes = s.router.routes ∧ (breakEdge s).router.notices = s.router.notices ∧
    (breakEdge s).router.lost = s.router.lost ∧ (breakEdge s).ins = s.ins ∧ (breakEdge s).outs = s.outs ∧
    (breakEdge s).result.n = s.result.n ∧ (breakEdge s).log.interval = s.log.interval ∧
    (breakEdge s).log.seqNo = s.log.seqNo ∧ (breakEdge s).log.stream = s.log.stream ∧
    (breakEdge s).log.firstSkipped = s.log.firstSkipped ∧ (breakEdge s).time.testTime = s.time.testTime ∧
    (breakEdge s).time.sec = s.time.sec ∧ (breakEdge s).time.ns = s.time.ns ∧
    (breakEdge s).time.frac = s.time.frac ∧ (breakEdge s).time.step = s.time.step ∧
    (breakEdge s).time.trim = s.time.trim ∧ (breakEdge s).time.crystal = s.time.crystal ∧
    (breakEdge s).time.msSeen = s.time.msSeen ∧ (breakEdge s).host = s.host ∧ (breakEdge s).store = s.store ∧
    (breakEdge s).free = s.free := by
  simp only [breakEdge]; (repeat' split) <;> simp

@[simp] theorem consumeInput_frame (k : Fin 8) (now : Bool) (s : State) :
    (consumeInput k now s).pending = s.pending ∧ (consumeInput k now s).links = s.links ∧
    (consumeInput k now s).force.tare = s.force.tare ∧ (consumeInput k now s).force.f = s.force.f ∧
    (consumeInput k now s).force.tareOp = s.force.tareOp ∧ (consumeInput k now s).force.uncal = s.force.uncal ∧
    (consumeInput k now s).strain.specimen = s.strain.specimen ∧
    (consumeInput k now s).strain.stress = s.strain.stress ∧
    (consumeInput k now s).strain.stressSat = s.strain.stressSat ∧
    (consumeInput k now s).strain.setSource = s.strain.setSource ∧
    (consumeInput k now s).motion.encCount = s.motion.encCount ∧
    (consumeInput k now s).motion.softLower = s.motion.softLower ∧
    (consumeInput k now s).motion.softUpper = s.motion.softUpper ∧
    (consumeInput k now s).motion.sign = s.motion.sign ∧ (consumeInput k now s).motion.encA = s.motion.encA ∧
    (consumeInput k now s).motion.encB = s.motion.encB ∧
    (consumeInput k now s).motion.encErrors = s.motion.encErrors ∧
    (consumeInput k now s).motion.periodDue = s.motion.periodDue ∧
    (consumeInput k now s).motion.dwell = s.motion.dwell ∧
    (consumeInput k now s).motion.zeroRun = s.motion.zeroRun ∧
    (consumeInput k now s).motion.blind = s.motion.blind ∧
    (consumeInput k now s).motion.lastWord = s.motion.lastWord ∧ (consumeInput k now s).loop.gPos = s.loop.gPos ∧
    (consumeInput k now s).loop.gStress = s.loop.gStress ∧ (consumeInput k now s).loop.gStrain = s.loop.gStrain ∧
    (consumeInput k now s).prot.overload = s.prot.overload ∧ (consumeInput k now s).seq.method = s.seq.method ∧
    (consumeInput k now s).seq.phases = s.seq.phases ∧ (consumeInput k now s).router.routes = s.router.routes ∧
    (consumeInput k now s).ins = s.ins ∧ (consumeInput k now s).log.interval = s.log.interval ∧
    (consumeInput k now s).log.stream = s.log.stream ∧
    (consumeInput k now s).log.firstSkipped = s.log.firstSkipped ∧ (consumeInput k now s).time.sec = s.time.sec ∧
    (consumeInput k now s).time.ns = s.time.ns ∧ (consumeInput k now s).time.frac = s.time.frac ∧
    (consumeInput k now s).time.step = s.time.step ∧ (consumeInput k now s).time.trim = s.time.trim ∧
    (consumeInput k now s).time.crystal = s.time.crystal ∧ (consumeInput k now s).host = s.host ∧
    (consumeInput k now s).store = s.store ∧ (consumeInput k now s).free = s.free := by
  simp only [consumeInput]; (repeat' split) <;> simp

@[simp] theorem inputChanged_frame (k : Fin 8) (now : Bool) (s : State) :
    (inputChanged k now s).pending = s.pending ∧ (inputChanged k now s).links = s.links ∧
    (inputChanged k now s).force.tare = s.force.tare ∧ (inputChanged k now s).force.f = s.force.f ∧
    (inputChanged k now s).force.tareOp = s.force.tareOp ∧ (inputChanged k now s).force.uncal = s.force.uncal ∧
    (inputChanged k now s).strain.specimen = s.strain.specimen ∧
    (inputChanged k now s).strain.stress = s.strain.stress ∧
    (inputChanged k now s).strain.stressSat = s.strain.stressSat ∧
    (inputChanged k now s).strain.setSource = s.strain.setSource ∧
    (inputChanged k now s).motion.encCount = s.motion.encCount ∧
    (inputChanged k now s).motion.softLower = s.motion.softLower ∧
    (inputChanged k now s).motion.softUpper = s.motion.softUpper ∧
    (inputChanged k now s).motion.sign = s.motion.sign ∧ (inputChanged k now s).motion.encA = s.motion.encA ∧
    (inputChanged k now s).motion.encB = s.motion.encB ∧
    (inputChanged k now s).motion.encErrors = s.motion.encErrors ∧
    (inputChanged k now s).motion.periodDue = s.motion.periodDue ∧
    (inputChanged k now s).motion.dwell = s.motion.dwell ∧
    (inputChanged k now s).motion.zeroRun = s.motion.zeroRun ∧
    (inputChanged k now s).motion.blind = s.motion.blind ∧
    (inputChanged k now s).motion.lastWord = s.motion.lastWord ∧ (inputChanged k now s).loop.gPos = s.loop.gPos ∧
    (inputChanged k now s).loop.gStress = s.loop.gStress ∧ (inputChanged k now s).loop.gStrain = s.loop.gStrain ∧
    (inputChanged k now s).prot.overload = s.prot.overload ∧ (inputChanged k now s).seq.method = s.seq.method ∧
    (inputChanged k now s).seq.phases = s.seq.phases ∧ (inputChanged k now s).router.routes = s.router.routes ∧
    (inputChanged k now s).ins = s.ins ∧ (inputChanged k now s).log.interval = s.log.interval ∧
    (inputChanged k now s).log.stream = s.log.stream ∧
    (inputChanged k now s).log.firstSkipped = s.log.firstSkipped ∧ (inputChanged k now s).time.sec = s.time.sec ∧
    (inputChanged k now s).time.ns = s.time.ns ∧ (inputChanged k now s).time.frac = s.time.frac ∧
    (inputChanged k now s).time.step = s.time.step ∧ (inputChanged k now s).time.trim = s.time.trim ∧
    (inputChanged k now s).time.crystal = s.time.crystal ∧ (inputChanged k now s).host = s.host ∧
    (inputChanged k now s).store = s.store ∧ (inputChanged k now s).free = s.free := by
  simp only [inputChanged]; (repeat' split) <;> simp

@[simp] theorem formAsserted_frame (k : Fin 8) (s : State) :
    (formAsserted k s).pending = s.pending ∧ (formAsserted k s).links = s.links ∧
    (formAsserted k s).force.tare = s.force.tare ∧ (formAsserted k s).force.f = s.force.f ∧
    (formAsserted k s).force.tareOp = s.force.tareOp ∧ (formAsserted k s).force.uncal = s.force.uncal ∧
    (formAsserted k s).strain.specimen = s.strain.specimen ∧ (formAsserted k s).strain.stress = s.strain.stress ∧
    (formAsserted k s).strain.stressSat = s.strain.stressSat ∧
    (formAsserted k s).strain.setSource = s.strain.setSource ∧
    (formAsserted k s).motion.encCount = s.motion.encCount ∧
    (formAsserted k s).motion.softLower = s.motion.softLower ∧
    (formAsserted k s).motion.softUpper = s.motion.softUpper ∧ (formAsserted k s).motion.sign = s.motion.sign ∧
    (formAsserted k s).motion.encA = s.motion.encA ∧ (formAsserted k s).motion.encB = s.motion.encB ∧
    (formAsserted k s).motion.encErrors = s.motion.encErrors ∧
    (formAsserted k s).motion.periodDue = s.motion.periodDue ∧ (formAsserted k s).motion.dwell = s.motion.dwell ∧
    (formAsserted k s).motion.zeroRun = s.motion.zeroRun ∧ (formAsserted k s).motion.blind = s.motion.blind ∧
    (formAsserted k s).motion.lastWord = s.motion.lastWord ∧ (formAsserted k s).loop.gPos = s.loop.gPos ∧
    (formAsserted k s).loop.gStress = s.loop.gStress ∧ (formAsserted k s).loop.gStrain = s.loop.gStrain ∧
    (formAsserted k s).prot.overload = s.prot.overload ∧ (formAsserted k s).seq.method = s.seq.method ∧
    (formAsserted k s).seq.phases = s.seq.phases ∧ (formAsserted k s).router.routes = s.router.routes ∧
    (formAsserted k s).log.interval = s.log.interval ∧ (formAsserted k s).log.stream = s.log.stream ∧
    (formAsserted k s).log.firstSkipped = s.log.firstSkipped ∧ (formAsserted k s).time.sec = s.time.sec ∧
    (formAsserted k s).time.ns = s.time.ns ∧ (formAsserted k s).time.frac = s.time.frac ∧
    (formAsserted k s).time.step = s.time.step ∧ (formAsserted k s).time.trim = s.time.trim ∧
    (formAsserted k s).time.crystal = s.time.crystal ∧ (formAsserted k s).host = s.host ∧
    (formAsserted k s).store = s.store ∧ (formAsserted k s).free = s.free := by
  simp only [formAsserted]; (repeat' split) <;> simp

@[simp] theorem takeRawLevel_frame (k : Fin 8) (s : State) :
    (takeRawLevel k s).pending = s.pending ∧ (takeRawLevel k s).links = s.links ∧
    (takeRawLevel k s).force.tare = s.force.tare ∧ (takeRawLevel k s).force.f = s.force.f ∧
    (takeRawLevel k s).force.tareOp = s.force.tareOp ∧ (takeRawLevel k s).force.uncal = s.force.uncal ∧
    (takeRawLevel k s).strain.specimen = s.strain.specimen ∧ (takeRawLevel k s).strain.stress = s.strain.stress ∧
    (takeRawLevel k s).strain.stressSat = s.strain.stressSat ∧
    (takeRawLevel k s).strain.setSource = s.strain.setSource ∧
    (takeRawLevel k s).motion.encCount = s.motion.encCount ∧
    (takeRawLevel k s).motion.softLower = s.motion.softLower ∧
    (takeRawLevel k s).motion.softUpper = s.motion.softUpper ∧ (takeRawLevel k s).motion.sign = s.motion.sign ∧
    (takeRawLevel k s).motion.encA = s.motion.encA ∧ (takeRawLevel k s).motion.encB = s.motion.encB ∧
    (takeRawLevel k s).motion.encErrors = s.motion.encErrors ∧
    (takeRawLevel k s).motion.periodDue = s.motion.periodDue ∧ (takeRawLevel k s).motion.dwell = s.motion.dwell ∧
    (takeRawLevel k s).motion.zeroRun = s.motion.zeroRun ∧ (takeRawLevel k s).motion.blind = s.motion.blind ∧
    (takeRawLevel k s).motion.lastWord = s.motion.lastWord ∧ (takeRawLevel k s).loop.gPos = s.loop.gPos ∧
    (takeRawLevel k s).loop.gStress = s.loop.gStress ∧ (takeRawLevel k s).loop.gStrain = s.loop.gStrain ∧
    (takeRawLevel k s).prot.overload = s.prot.overload ∧ (takeRawLevel k s).seq.method = s.seq.method ∧
    (takeRawLevel k s).seq.phases = s.seq.phases ∧ (takeRawLevel k s).router.routes = s.router.routes ∧
    (takeRawLevel k s).log.interval = s.log.interval ∧ (takeRawLevel k s).log.stream = s.log.stream ∧
    (takeRawLevel k s).log.firstSkipped = s.log.firstSkipped ∧ (takeRawLevel k s).time.sec = s.time.sec ∧
    (takeRawLevel k s).time.ns = s.time.ns ∧ (takeRawLevel k s).time.frac = s.time.frac ∧
    (takeRawLevel k s).time.step = s.time.step ∧ (takeRawLevel k s).time.trim = s.time.trim ∧
    (takeRawLevel k s).time.crystal = s.time.crystal ∧ (takeRawLevel k s).host = s.host ∧
    (takeRawLevel k s).store = s.store ∧ (takeRawLevel k s).free = s.free := by
  simp [takeRawLevel]

@[simp] theorem doInputRawChange_frame (k : Fin 8) (level : Bool) (s : State) :
    (doInputRawChange k level s).pending = s.pending ∧ (doInputRawChange k level s).links = s.links ∧
    (doInputRawChange k level s).force.tare = s.force.tare ∧ (doInputRawChange k level s).force.f = s.force.f ∧
    (doInputRawChange k level s).force.tareOp = s.force.tareOp ∧
    (doInputRawChange k level s).force.uncal = s.force.uncal ∧
    (doInputRawChange k level s).strain.specimen = s.strain.specimen ∧
    (doInputRawChange k level s).strain.stress = s.strain.stress ∧
    (doInputRawChange k level s).strain.stressSat = s.strain.stressSat ∧
    (doInputRawChange k level s).strain.setSource = s.strain.setSource ∧
    (doInputRawChange k level s).motion.encCount = s.motion.encCount ∧
    (doInputRawChange k level s).motion.softLower = s.motion.softLower ∧
    (doInputRawChange k level s).motion.softUpper = s.motion.softUpper ∧
    (doInputRawChange k level s).motion.sign = s.motion.sign ∧
    (doInputRawChange k level s).motion.encA = s.motion.encA ∧
    (doInputRawChange k level s).motion.encB = s.motion.encB ∧
    (doInputRawChange k level s).motion.encErrors = s.motion.encErrors ∧
    (doInputRawChange k level s).motion.periodDue = s.motion.periodDue ∧
    (doInputRawChange k level s).motion.dwell = s.motion.dwell ∧
    (doInputRawChange k level s).motion.zeroRun = s.motion.zeroRun ∧
    (doInputRawChange k level s).motion.blind = s.motion.blind ∧
    (doInputRawChange k level s).motion.lastWord = s.motion.lastWord ∧
    (doInputRawChange k level s).loop.gPos = s.loop.gPos ∧
    (doInputRawChange k level s).loop.gStress = s.loop.gStress ∧
    (doInputRawChange k level s).loop.gStrain = s.loop.gStrain ∧
    (doInputRawChange k level s).prot.overload = s.prot.overload ∧
    (doInputRawChange k level s).seq.method = s.seq.method ∧
    (doInputRawChange k level s).seq.phases = s.seq.phases ∧
    (doInputRawChange k level s).router.routes = s.router.routes ∧
    (doInputRawChange k level s).log.interval = s.log.interval ∧
    (doInputRawChange k level s).log.stream = s.log.stream ∧
    (doInputRawChange k level s).log.firstSkipped = s.log.firstSkipped ∧
    (doInputRawChange k level s).time.sec = s.time.sec ∧ (doInputRawChange k level s).time.ns = s.time.ns ∧
    (doInputRawChange k level s).time.frac = s.time.frac ∧ (doInputRawChange k level s).time.step = s.time.step ∧
    (doInputRawChange k level s).time.trim = s.time.trim ∧
    (doInputRawChange k level s).time.crystal = s.time.crystal ∧ (doInputRawChange k level s).host.rx = s.host.rx ∧
    (doInputRawChange k level s).host.replies = s.host.replies ∧
    (doInputRawChange k level s).host.goodFrames = s.host.goodFrames ∧
    (doInputRawChange k level s).host.crcErrors = s.host.crcErrors ∧
    (doInputRawChange k level s).host.framingErrors = s.host.framingErrors ∧
    (doInputRawChange k level s).host.overruns = s.host.overruns ∧
    (doInputRawChange k level s).host.framesSent = s.host.framesSent ∧
    (doInputRawChange k level s).host.resetPending = s.host.resetPending ∧
    (doInputRawChange k level s).store = s.store ∧ (doInputRawChange k level s).free = s.free := by
  simp only [doInputRawChange]; (repeat' split) <;> simp

@[simp] theorem doInputFilterExpiry_frame (k : Fin 8) (s : State) :
    (doInputFilterExpiry k s).pending = s.pending ∧ (doInputFilterExpiry k s).links = s.links ∧
    (doInputFilterExpiry k s).force.tare = s.force.tare ∧ (doInputFilterExpiry k s).force.f = s.force.f ∧
    (doInputFilterExpiry k s).force.tareOp = s.force.tareOp ∧
    (doInputFilterExpiry k s).force.uncal = s.force.uncal ∧
    (doInputFilterExpiry k s).strain.specimen = s.strain.specimen ∧
    (doInputFilterExpiry k s).strain.stress = s.strain.stress ∧
    (doInputFilterExpiry k s).strain.stressSat = s.strain.stressSat ∧
    (doInputFilterExpiry k s).strain.setSource = s.strain.setSource ∧
    (doInputFilterExpiry k s).motion.encCount = s.motion.encCount ∧
    (doInputFilterExpiry k s).motion.softLower = s.motion.softLower ∧
    (doInputFilterExpiry k s).motion.softUpper = s.motion.softUpper ∧
    (doInputFilterExpiry k s).motion.sign = s.motion.sign ∧ (doInputFilterExpiry k s).motion.encA = s.motion.encA ∧
    (doInputFilterExpiry k s).motion.encB = s.motion.encB ∧
    (doInputFilterExpiry k s).motion.encErrors = s.motion.encErrors ∧
    (doInputFilterExpiry k s).motion.periodDue = s.motion.periodDue ∧
    (doInputFilterExpiry k s).motion.dwell = s.motion.dwell ∧
    (doInputFilterExpiry k s).motion.zeroRun = s.motion.zeroRun ∧
    (doInputFilterExpiry k s).motion.blind = s.motion.blind ∧
    (doInputFilterExpiry k s).motion.lastWord = s.motion.lastWord ∧
    (doInputFilterExpiry k s).loop.gPos = s.loop.gPos ∧ (doInputFilterExpiry k s).loop.gStress = s.loop.gStress ∧
    (doInputFilterExpiry k s).loop.gStrain = s.loop.gStrain ∧
    (doInputFilterExpiry k s).prot.overload = s.prot.overload ∧
    (doInputFilterExpiry k s).seq.method = s.seq.method ∧ (doInputFilterExpiry k s).seq.phases = s.seq.phases ∧
    (doInputFilterExpiry k s).router.routes = s.router.routes ∧
    (doInputFilterExpiry k s).log.interval = s.log.interval ∧ (doInputFilterExpiry k s).log.stream = s.log.stream ∧
    (doInputFilterExpiry k s).log.firstSkipped = s.log.firstSkipped ∧
    (doInputFilterExpiry k s).time.sec = s.time.sec ∧ (doInputFilterExpiry k s).time.ns = s.time.ns ∧
    (doInputFilterExpiry k s).time.frac = s.time.frac ∧ (doInputFilterExpiry k s).time.step = s.time.step ∧
    (doInputFilterExpiry k s).time.trim = s.time.trim ∧ (doInputFilterExpiry k s).time.crystal = s.time.crystal ∧
    (doInputFilterExpiry k s).host.rx = s.host.rx ∧ (doInputFilterExpiry k s).host.replies = s.host.replies ∧
    (doInputFilterExpiry k s).host.goodFrames = s.host.goodFrames ∧
    (doInputFilterExpiry k s).host.crcErrors = s.host.crcErrors ∧
    (doInputFilterExpiry k s).host.framingErrors = s.host.framingErrors ∧
    (doInputFilterExpiry k s).host.overruns = s.host.overruns ∧
    (doInputFilterExpiry k s).host.framesSent = s.host.framesSent ∧
    (doInputFilterExpiry k s).host.resetPending = s.host.resetPending ∧ (doInputFilterExpiry k s).store = s.store ∧
    (doInputFilterExpiry k s).free = s.free := by
  simp only [doInputFilterExpiry]; (repeat' split) <;> simp

@[simp] theorem establishInputs_frame (s : State) :
    (establishInputs s).pending = s.pending ∧ (establishInputs s).links = s.links ∧
    (establishInputs s).force = s.force ∧ (establishInputs s).strain = s.strain ∧ (establishInputs s).ext = s.ext ∧
    (establishInputs s).motion = s.motion ∧ (establishInputs s).loop = s.loop ∧ (establishInputs s).prot = s.prot ∧
    (establishInputs s).seq = s.seq ∧ (establishInputs s).mon = s.mon ∧ (establishInputs s).router = s.router ∧
    (establishInputs s).outs = s.outs ∧ (establishInputs s).result = s.result ∧ (establishInputs s).log = s.log ∧
    (establishInputs s).time = s.time ∧ (establishInputs s).host = s.host ∧ (establishInputs s).store = s.store ∧
    (establishInputs s).free = s.free := by
  simp [establishInputs, indices, List.foldl_cons, List.foldl_nil]

@[simp] theorem doPulseTimerExpiry_frame (k : Fin 8) (s : State) :
    (doPulseTimerExpiry k s).pending = s.pending ∧ (doPulseTimerExpiry k s).links = s.links ∧
    (doPulseTimerExpiry k s).force = s.force ∧ (doPulseTimerExpiry k s).strain = s.strain ∧
    (doPulseTimerExpiry k s).ext = s.ext ∧ (doPulseTimerExpiry k s).motion = s.motion ∧
    (doPulseTimerExpiry k s).loop = s.loop ∧ (doPulseTimerExpiry k s).prot = s.prot ∧
    (doPulseTimerExpiry k s).seq = s.seq ∧ (doPulseTimerExpiry k s).mon = s.mon ∧
    (doPulseTimerExpiry k s).router = s.router ∧ (doPulseTimerExpiry k s).ins = s.ins ∧
    (doPulseTimerExpiry k s).result = s.result ∧ (doPulseTimerExpiry k s).log = s.log ∧
    (doPulseTimerExpiry k s).time = s.time ∧ (doPulseTimerExpiry k s).host = s.host ∧
    (doPulseTimerExpiry k s).store = s.store ∧ (doPulseTimerExpiry k s).free = s.free := by
  simp [doPulseTimerExpiry]

/-! ## CalCmds -/

@[simp] theorem installCal_frame (c : Calibration) (s : State) :
    (installCal c s).pending = s.pending ∧ (installCal c s).links = s.links ∧
    (installCal c s).force.tare = s.force.tare ∧ (installCal c s).force.f = s.force.f ∧
    (installCal c s).force.uncal = s.force.uncal ∧ (installCal c s).strain.specimen = s.strain.specimen ∧
    (installCal c s).strain.stress = s.strain.stress ∧ (installCal c s).strain.stressSat = s.strain.stressSat ∧
    (installCal c s).strain.setSource = s.strain.setSource ∧
    (installCal c s).motion.encCount = s.motion.encCount ∧ (installCal c s).motion.softLower = s.motion.softLower ∧
    (installCal c s).motion.softUpper = s.motion.softUpper ∧ (installCal c s).motion.sign = s.motion.sign ∧
    (installCal c s).motion.encA = s.motion.encA ∧ (installCal c s).motion.encB = s.motion.encB ∧
    (installCal c s).motion.encErrors = s.motion.encErrors ∧
    (installCal c s).motion.periodDue = s.motion.periodDue ∧ (installCal c s).motion.dwell = s.motion.dwell ∧
    (installCal c s).motion.zeroRun = s.motion.zeroRun ∧ (installCal c s).motion.lastWord = s.motion.lastWord ∧
    (installCal c s).loop.gPos = s.loop.gPos ∧ (installCal c s).loop.gStress = s.loop.gStress ∧
    (installCal c s).loop.gStrain = s.loop.gStrain ∧ (installCal c s).prot.overload = s.prot.overload ∧
    (installCal c s).seq.method = s.seq.method ∧ (installCal c s).seq.phases = s.seq.phases ∧
    (installCal c s).router.routes = s.router.routes ∧ (installCal c s).log.interval = s.log.interval ∧
    (installCal c s).log.stream = s.log.stream ∧ (installCal c s).log.firstSkipped = s.log.firstSkipped ∧
    (installCal c s).time.sec = s.time.sec ∧ (installCal c s).time.ns = s.time.ns ∧
    (installCal c s).time.frac = s.time.frac ∧ (installCal c s).time.step = s.time.step ∧
    (installCal c s).time.trim = s.time.trim ∧ (installCal c s).time.crystal = s.time.crystal ∧
    (installCal c s).host = s.host ∧ (installCal c s).store.ready = s.store.ready ∧
    (installCal c s).store.save = s.store.save ∧ (installCal c s).store.nv = s.store.nv ∧
    (installCal c s).free = s.free := by
  simp only [installCal, indices, List.foldl_cons, List.foldl_nil]; (repeat' split) <;> simp

@[simp] theorem saveEnd_frame (block : List Byte) (readBack : List Byte) (s : State) :
    (saveEnd block readBack s).pending = s.pending ∧ (saveEnd block readBack s).links = s.links ∧
    (saveEnd block readBack s).force = s.force ∧ (saveEnd block readBack s).strain = s.strain ∧
    (saveEnd block readBack s).ext = s.ext ∧ (saveEnd block readBack s).motion.state = s.motion.state ∧
    (saveEnd block readBack s).motion.queue = s.motion.queue ∧
    (saveEnd block readBack s).motion.driveEn = s.motion.driveEn ∧
    (saveEnd block readBack s).motion.lastDemand = s.motion.lastDemand ∧
    (saveEnd block readBack s).motion.jog = s.motion.jog ∧
    (saveEnd block readBack s).motion.keepalive = s.motion.keepalive ∧
    (saveEnd block readBack s).motion.encCount = s.motion.encCount ∧
    (saveEnd block readBack s).motion.softLower = s.motion.softLower ∧
    (saveEnd block readBack s).motion.softUpper = s.motion.softUpper ∧
    (saveEnd block readBack s).motion.sign = s.motion.sign ∧
    (saveEnd block readBack s).motion.refX = s.motion.refX ∧
    (saveEnd block readBack s).motion.encA = s.motion.encA ∧
    (saveEnd block readBack s).motion.encB = s.motion.encB ∧
    (saveEnd block readBack s).motion.encErrors = s.motion.encErrors ∧
    (saveEnd block readBack s).motion.periodDue = s.motion.periodDue ∧
    (saveEnd block readBack s).motion.dwell = s.motion.dwell ∧
    (saveEnd block readBack s).motion.zeroRun = s.motion.zeroRun ∧
    (saveEnd block readBack s).motion.dest = s.motion.dest ∧
    (saveEnd block readBack s).motion.lastWord = s.motion.lastWord ∧
    (saveEnd block readBack s).loop.gPos = s.loop.gPos ∧ (saveEnd block readBack s).loop.gStress = s.loop.gStress ∧
    (saveEnd block readBack s).loop.gStrain = s.loop.gStrain ∧ (saveEnd block readBack s).loop.mode = s.loop.mode ∧
    (saveEnd block readBack s).loop.target = s.loop.target ∧ (saveEnd block readBack s).prot = s.prot ∧
    (saveEnd block readBack s).seq = s.seq ∧ (saveEnd block readBack s).mon = s.mon ∧
    (saveEnd block readBack s).router.routes = s.router.routes ∧
    (saveEnd block readBack s).router.notices = s.router.notices ∧
    (saveEnd block readBack s).router.lost = s.router.lost ∧ (saveEnd block readBack s).ins = s.ins ∧
    (saveEnd block readBack s).outs = s.outs ∧ (saveEnd block readBack s).result = s.result ∧
    (saveEnd block readBack s).log = s.log ∧ (saveEnd block readBack s).time = s.time ∧
    (saveEnd block readBack s).host = s.host ∧ (saveEnd block readBack s).store.ready = s.store.ready ∧
    (saveEnd block readBack s).store.cal = s.store.cal ∧ (saveEnd block readBack s).free = s.free := by
  simp only [saveEnd]; (repeat' split) <;> simp

@[simp] theorem doSaveEnd_frame (readBack : List Byte) (s : State) :
    (doSaveEnd readBack s).pending = s.pending ∧ (doSaveEnd readBack s).links = s.links ∧
    (doSaveEnd readBack s).force = s.force ∧ (doSaveEnd readBack s).strain = s.strain ∧
    (doSaveEnd readBack s).ext.primary = s.ext.primary ∧ (doSaveEnd readBack s).ext.secondary = s.ext.secondary ∧
    (doSaveEnd readBack s).ext.removal = s.ext.removal ∧ (doSaveEnd readBack s).ext.slipM = s.ext.slipM ∧
    (doSaveEnd readBack s).ext.slipX = s.ext.slipX ∧ (doSaveEnd readBack s).motion.encCount = s.motion.encCount ∧
    (doSaveEnd readBack s).motion.softLower = s.motion.softLower ∧
    (doSaveEnd readBack s).motion.softUpper = s.motion.softUpper ∧
    (doSaveEnd readBack s).motion.sign = s.motion.sign ∧ (doSaveEnd readBack s).motion.refX = s.motion.refX ∧
    (doSaveEnd readBack s).motion.encA = s.motion.encA ∧ (doSaveEnd readBack s).motion.encB = s.motion.encB ∧
    (doSaveEnd readBack s).motion.encErrors = s.motion.encErrors ∧
    (doSaveEnd readBack s).motion.periodDue = s.motion.periodDue ∧
    (doSaveEnd readBack s).motion.dwell = s.motion.dwell ∧
    (doSaveEnd readBack s).motion.zeroRun = s.motion.zeroRun ∧
    (doSaveEnd readBack s).motion.lastWord = s.motion.lastWord ∧ (doSaveEnd readBack s).loop.gPos = s.loop.gPos ∧
    (doSaveEnd readBack s).loop.gStress = s.loop.gStress ∧ (doSaveEnd readBack s).loop.gStrain = s.loop.gStrain ∧
    (doSaveEnd readBack s).prot.latched = s.prot.latched ∧ (doSaveEnd readBack s).prot.overload = s.prot.overload ∧
    (doSaveEnd readBack s).prot.gripCount = s.prot.gripCount ∧ (doSaveEnd readBack s).seq.method = s.seq.method ∧
    (doSaveEnd readBack s).seq.phases = s.seq.phases ∧ (doSaveEnd readBack s).seq.phase = s.seq.phase ∧
    (doSaveEnd readBack s).seq.armedTrigger = s.seq.armedTrigger ∧
    (doSaveEnd readBack s).seq.fractured = s.seq.fractured ∧
    (doSaveEnd readBack s).seq.endReason = s.seq.endReason ∧
    (doSaveEnd readBack s).seq.abortCause = s.seq.abortCause ∧
    (doSaveEnd readBack s).seq.pendingExit = s.seq.pendingExit ∧
    (doSaveEnd readBack s).seq.phaseStart = s.seq.phaseStart ∧ (doSaveEnd readBack s).mon = s.mon ∧
    (doSaveEnd readBack s).router.routes = s.router.routes ∧ (doSaveEnd readBack s).ins = s.ins ∧
    (doSaveEnd readBack s).result.n = s.result.n ∧ (doSaveEnd readBack s).result.fracArmed = s.result.fracArmed ∧
    (doSaveEnd readBack s).log.interval = s.log.interval ∧ (doSaveEnd readBack s).log.seqNo = s.log.seqNo ∧
    (doSaveEnd readBack s).log.stream = s.log.stream ∧
    (doSaveEnd readBack s).log.firstSkipped = s.log.firstSkipped ∧
    (doSaveEnd readBack s).time.testTime = s.time.testTime ∧ (doSaveEnd readBack s).time.sec = s.time.sec ∧
    (doSaveEnd readBack s).time.ns = s.time.ns ∧ (doSaveEnd readBack s).time.frac = s.time.frac ∧
    (doSaveEnd readBack s).time.step = s.time.step ∧ (doSaveEnd readBack s).time.trim = s.time.trim ∧
    (doSaveEnd readBack s).time.crystal = s.time.crystal ∧ (doSaveEnd readBack s).time.msSeen = s.time.msSeen ∧
    (doSaveEnd readBack s).host.rx = s.host.rx ∧ (doSaveEnd readBack s).host.replies = s.host.replies ∧
    (doSaveEnd readBack s).host.goodFrames = s.host.goodFrames ∧
    (doSaveEnd readBack s).host.crcErrors = s.host.crcErrors ∧
    (doSaveEnd readBack s).host.framingErrors = s.host.framingErrors ∧
    (doSaveEnd readBack s).host.overruns = s.host.overruns ∧
    (doSaveEnd readBack s).host.framesSent = s.host.framesSent ∧
    (doSaveEnd readBack s).host.resetPending = s.host.resetPending ∧
    (doSaveEnd readBack s).store.ready = s.store.ready ∧ (doSaveEnd readBack s).store.cal = s.store.cal ∧
    (doSaveEnd readBack s).free = s.free := by
  simp only [doSaveEnd]; (repeat' split) <;> simp

@[simp] theorem takeLoad_frame (s : State) :
    (takeLoad s).pending = s.pending ∧ (takeLoad s).links = s.links ∧ (takeLoad s).force = s.force ∧
    (takeLoad s).strain = s.strain ∧ (takeLoad s).ext = s.ext ∧ (takeLoad s).motion = s.motion ∧
    (takeLoad s).loop = s.loop ∧ (takeLoad s).prot = s.prot ∧ (takeLoad s).seq = s.seq ∧ (takeLoad s).mon = s.mon ∧
    (takeLoad s).router.routes = s.router.routes ∧ (takeLoad s).router.notices = s.router.notices ∧
    (takeLoad s).router.lost = s.router.lost ∧ (takeLoad s).ins = s.ins ∧ (takeLoad s).outs = s.outs ∧
    (takeLoad s).result = s.result ∧ (takeLoad s).log = s.log ∧ (takeLoad s).time = s.time ∧
    (takeLoad s).host = s.host ∧ (takeLoad s).store.ready = s.store.ready ∧ (takeLoad s).store.save = s.store.save ∧
    (takeLoad s).store.nv = s.store.nv ∧ (takeLoad s).free = s.free := by
  simp only [takeLoad]; (repeat' split) <;> simp

@[simp] theorem doCalLoadEnd_frame (s : State) :
    (doCalLoadEnd s).pending = s.pending ∧ (doCalLoadEnd s).links = s.links ∧ (doCalLoadEnd s).force = s.force ∧
    (doCalLoadEnd s).strain = s.strain ∧ (doCalLoadEnd s).ext.primary = s.ext.primary ∧
    (doCalLoadEnd s).ext.secondary = s.ext.secondary ∧ (doCalLoadEnd s).ext.removal = s.ext.removal ∧
    (doCalLoadEnd s).ext.slipM = s.ext.slipM ∧ (doCalLoadEnd s).ext.slipX = s.ext.slipX ∧
    (doCalLoadEnd s).motion.encCount = s.motion.encCount ∧ (doCalLoadEnd s).motion.softLower = s.motion.softLower ∧
    (doCalLoadEnd s).motion.softUpper = s.motion.softUpper ∧ (doCalLoadEnd s).motion.sign = s.motion.sign ∧
    (doCalLoadEnd s).motion.refX = s.motion.refX ∧ (doCalLoadEnd s).motion.encA = s.motion.encA ∧
    (doCalLoadEnd s).motion.encB = s.motion.encB ∧ (doCalLoadEnd s).motion.encErrors = s.motion.encErrors ∧
    (doCalLoadEnd s).motion.periodDue = s.motion.periodDue ∧ (doCalLoadEnd s).motion.dwell = s.motion.dwell ∧
    (doCalLoadEnd s).motion.zeroRun = s.motion.zeroRun ∧ (doCalLoadEnd s).motion.lastWord = s.motion.lastWord ∧
    (doCalLoadEnd s).loop.gPos = s.loop.gPos ∧ (doCalLoadEnd s).loop.gStress = s.loop.gStress ∧
    (doCalLoadEnd s).loop.gStrain = s.loop.gStrain ∧ (doCalLoadEnd s).prot.latched = s.prot.latched ∧
    (doCalLoadEnd s).prot.overload = s.prot.overload ∧ (doCalLoadEnd s).prot.gripCount = s.prot.gripCount ∧
    (doCalLoadEnd s).seq.method = s.seq.method ∧ (doCalLoadEnd s).seq.phases = s.seq.phases ∧
    (doCalLoadEnd s).seq.phase = s.seq.phase ∧ (doCalLoadEnd s).seq.armedTrigger = s.seq.armedTrigger ∧
    (doCalLoadEnd s).seq.fractured = s.seq.fractured ∧ (doCalLoadEnd s).seq.endReason = s.seq.endReason ∧
    (doCalLoadEnd s).seq.abortCause = s.seq.abortCause ∧ (doCalLoadEnd s).seq.pendingExit = s.seq.pendingExit ∧
    (doCalLoadEnd s).seq.phaseStart = s.seq.phaseStart ∧ (doCalLoadEnd s).mon = s.mon ∧
    (doCalLoadEnd s).router.routes = s.router.routes ∧ (doCalLoadEnd s).result.n = s.result.n ∧
    (doCalLoadEnd s).result.fracArmed = s.result.fracArmed ∧ (doCalLoadEnd s).log.interval = s.log.interval ∧
    (doCalLoadEnd s).log.seqNo = s.log.seqNo ∧ (doCalLoadEnd s).log.stream = s.log.stream ∧
    (doCalLoadEnd s).log.firstSkipped = s.log.firstSkipped ∧ (doCalLoadEnd s).time.testTime = s.time.testTime ∧
    (doCalLoadEnd s).time.sec = s.time.sec ∧ (doCalLoadEnd s).time.ns = s.time.ns ∧
    (doCalLoadEnd s).time.frac = s.time.frac ∧ (doCalLoadEnd s).time.step = s.time.step ∧
    (doCalLoadEnd s).time.trim = s.time.trim ∧ (doCalLoadEnd s).time.crystal = s.time.crystal ∧
    (doCalLoadEnd s).time.msSeen = s.time.msSeen ∧ (doCalLoadEnd s).host.rx = s.host.rx ∧
    (doCalLoadEnd s).host.replies = s.host.replies ∧ (doCalLoadEnd s).host.goodFrames = s.host.goodFrames ∧
    (doCalLoadEnd s).host.crcErrors = s.host.crcErrors ∧
    (doCalLoadEnd s).host.framingErrors = s.host.framingErrors ∧ (doCalLoadEnd s).host.overruns = s.host.overruns ∧
    (doCalLoadEnd s).host.framesSent = s.host.framesSent ∧
    (doCalLoadEnd s).host.resetPending = s.host.resetPending ∧ (doCalLoadEnd s).store.save = s.store.save ∧
    (doCalLoadEnd s).store.nv = s.store.nv ∧ (doCalLoadEnd s).free = s.free := by
  simp only [doCalLoadEnd]; (repeat' split) <;> simp

/-! ## Reports -/

@[simp] theorem clearLatched_frame (s : State) :
    (clearLatched s).pending = s.pending ∧ (clearLatched s).links = s.links ∧
    (clearLatched s).force.tare = s.force.tare ∧ (clearLatched s).force.f = s.force.f ∧
    (clearLatched s).force.tareOp = s.force.tareOp ∧ (clearLatched s).force.fmax = s.force.fmax ∧
    (clearLatched s).force.strainAtFmax = s.force.strainAtFmax ∧
    (clearLatched s).force.hasPoint = s.force.hasPoint ∧ (clearLatched s).force.uncal = s.force.uncal ∧
    (clearLatched s).strain = s.strain ∧ (clearLatched s).ext = s.ext ∧ (clearLatched s).motion = s.motion ∧
    (clearLatched s).loop = s.loop ∧ (clearLatched s).prot = s.prot ∧ (clearLatched s).seq = s.seq ∧
    (clearLatched s).mon = s.mon ∧ (clearLatched s).router = s.router ∧ (clearLatched s).ins = s.ins ∧
    (clearLatched s).outs = s.outs ∧ (clearLatched s).result = s.result ∧ (clearLatched s).log = s.log ∧
    (clearLatched s).time = s.time ∧ (clearLatched s).host = s.host ∧ (clearLatched s).store = s.store ∧
    (clearLatched s).free = s.free := by
  simp [clearLatched]

@[simp] theorem setThresholds_frame (a : Option Nat) (b : Option Nat) (c : Option Nat) (s : State) :
    (setThresholds a b c s).pending = s.pending ∧ (setThresholds a b c s).force = s.force ∧
    (setThresholds a b c s).strain = s.strain ∧ (setThresholds a b c s).ext = s.ext ∧
    (setThresholds a b c s).motion = s.motion ∧ (setThresholds a b c s).loop = s.loop ∧
    (setThresholds a b c s).prot = s.prot ∧ (setThresholds a b c s).seq = s.seq ∧
    (setThresholds a b c s).mon = s.mon ∧ (setThresholds a b c s).router = s.router ∧
    (setThresholds a b c s).ins = s.ins ∧ (setThresholds a b c s).outs = s.outs ∧
    (setThresholds a b c s).result = s.result ∧ (setThresholds a b c s).log = s.log ∧
    (setThresholds a b c s).time = s.time ∧ (setThresholds a b c s).host = s.host ∧
    (setThresholds a b c s).store = s.store ∧ (setThresholds a b c s).free = s.free := by
  simp [setThresholds]

@[simp] theorem clearStats_frame (s : State) :
    (clearStats s).pending = s.pending ∧ (clearStats s).force = s.force ∧ (clearStats s).strain = s.strain ∧
    (clearStats s).ext = s.ext ∧ (clearStats s).motion.state = s.motion.state ∧
    (clearStats s).motion.queue = s.motion.queue ∧ (clearStats s).motion.driveEn = s.motion.driveEn ∧
    (clearStats s).motion.lastDemand = s.motion.lastDemand ∧ (clearStats s).motion.jog = s.motion.jog ∧
    (clearStats s).motion.keepalive = s.motion.keepalive ∧ (clearStats s).motion.encCount = s.motion.encCount ∧
    (clearStats s).motion.softLower = s.motion.softLower ∧ (clearStats s).motion.softUpper = s.motion.softUpper ∧
    (clearStats s).motion.sign = s.motion.sign ∧ (clearStats s).motion.refX = s.motion.refX ∧
    (clearStats s).motion.encA = s.motion.encA ∧ (clearStats s).motion.encB = s.motion.encB ∧
    (clearStats s).motion.periodDue = s.motion.periodDue ∧ (clearStats s).motion.dwell = s.motion.dwell ∧
    (clearStats s).motion.zeroRun = s.motion.zeroRun ∧ (clearStats s).motion.dest = s.motion.dest ∧
    (clearStats s).motion.blind = s.motion.blind ∧ (clearStats s).motion.lastWord = s.motion.lastWord ∧
    (clearStats s).motion.ceiling = s.motion.ceiling ∧ (clearStats s).loop = s.loop ∧ (clearStats s).prot = s.prot ∧
    (clearStats s).seq = s.seq ∧ (clearStats s).mon = s.mon ∧ (clearStats s).router = s.router ∧
    (clearStats s).ins = s.ins ∧ (clearStats s).outs = s.outs ∧ (clearStats s).result = s.result ∧
    (clearStats s).log = s.log ∧ (clearStats s).time = s.time ∧ (clearStats s).host.rx = s.host.rx ∧
    (clearStats s).host.replies = s.host.replies ∧ (clearStats s).host.tx = s.host.tx ∧
    (clearStats s).host.resetPending = s.host.resetPending ∧ (clearStats s).store = s.store ∧
    (clearStats s).free = s.free := by
  simp [clearStats]

/-! ## HostRx -/

@[simp] theorem pushReply_frame (r : Reply) (s : State) :
    (pushReply r s).pending = s.pending ∧ (pushReply r s).links = s.links ∧ (pushReply r s).force = s.force ∧
    (pushReply r s).strain = s.strain ∧ (pushReply r s).ext = s.ext ∧ (pushReply r s).motion = s.motion ∧
    (pushReply r s).loop = s.loop ∧ (pushReply r s).prot = s.prot ∧ (pushReply r s).seq = s.seq ∧
    (pushReply r s).mon = s.mon ∧ (pushReply r s).router = s.router ∧ (pushReply r s).ins = s.ins ∧
    (pushReply r s).outs = s.outs ∧ (pushReply r s).result = s.result ∧ (pushReply r s).log = s.log ∧
    (pushReply r s).time = s.time ∧ (pushReply r s).host.rx = s.host.rx ∧ (pushReply r s).host.tx = s.host.tx ∧
    (pushReply r s).host.goodFrames = s.host.goodFrames ∧ (pushReply r s).host.crcErrors = s.host.crcErrors ∧
    (pushReply r s).host.framingErrors = s.host.framingErrors ∧ (pushReply r s).host.overruns = s.host.overruns ∧
    (pushReply r s).host.framesSent = s.host.framesSent ∧ (pushReply r s).host.resetPending = s.host.resetPending ∧
    (pushReply r s).store = s.store ∧ (pushReply r s).free = s.free := by
  simp [pushReply]

@[simp] theorem framingError_frame (s : State) :
    (framingError s).pending = s.pending ∧ (framingError s).links = s.links ∧ (framingError s).force = s.force ∧
    (framingError s).strain = s.strain ∧ (framingError s).ext = s.ext ∧ (framingError s).motion = s.motion ∧
    (framingError s).loop = s.loop ∧ (framingError s).prot = s.prot ∧ (framingError s).seq = s.seq ∧
    (framingError s).mon = s.mon ∧ (framingError s).router = s.router ∧ (framingError s).ins = s.ins ∧
    (framingError s).outs = s.outs ∧ (framingError s).result = s.result ∧ (framingError s).log = s.log ∧
    (framingError s).time = s.time ∧ (framingError s).host.replies = s.host.replies ∧
    (framingError s).host.tx = s.host.tx ∧ (framingError s).host.goodFrames = s.host.goodFrames ∧
    (framingError s).host.crcErrors = s.host.crcErrors ∧ (framingError s).host.overruns = s.host.overruns ∧
    (framingError s).host.framesSent = s.host.framesSent ∧
    (framingError s).host.resetPending = s.host.resetPending ∧ (framingError s).store = s.store ∧
    (framingError s).free = s.free := by
  simp [framingError]

@[simp] theorem headerChar_frame (got : List Byte) (b : Byte) (s : State) :
    (headerChar got b s).pending = s.pending ∧ (headerChar got b s).links = s.links ∧
    (headerChar got b s).force = s.force ∧ (headerChar got b s).strain = s.strain ∧
    (headerChar got b s).ext = s.ext ∧ (headerChar got b s).motion = s.motion ∧ (headerChar got b s).loop = s.loop ∧
    (headerChar got b s).prot = s.prot ∧ (headerChar got b s).seq = s.seq ∧ (headerChar got b s).mon = s.mon ∧
    (headerChar got b s).router = s.router ∧ (headerChar got b s).ins = s.ins ∧ (headerChar got b s).outs = s.outs ∧
    (headerChar got b s).result = s.result ∧ (headerChar got b s).log = s.log ∧ (headerChar got b s).time = s.time ∧
    (headerChar got b s).host.replies = s.host.replies ∧ (headerChar got b s).host.tx = s.host.tx ∧
    (headerChar got b s).host.goodFrames = s.host.goodFrames ∧
    (headerChar got b s).host.crcErrors = s.host.crcErrors ∧ (headerChar got b s).host.overruns = s.host.overruns ∧
    (headerChar got b s).host.framesSent = s.host.framesSent ∧
    (headerChar got b s).host.resetPending = s.host.resetPending ∧ (headerChar got b s).store = s.store ∧
    (headerChar got b s).free = s.free := by
  simp only [headerChar]; (repeat' split) <;> simp

@[simp] theorem huntChar_frame (c : SerialChar) (s : State) :
    (huntChar c s).pending = s.pending ∧ (huntChar c s).links = s.links ∧ (huntChar c s).force = s.force ∧
    (huntChar c s).strain = s.strain ∧ (huntChar c s).ext = s.ext ∧ (huntChar c s).motion = s.motion ∧
    (huntChar c s).loop = s.loop ∧ (huntChar c s).prot = s.prot ∧ (huntChar c s).seq = s.seq ∧
    (huntChar c s).mon = s.mon ∧ (huntChar c s).router = s.router ∧ (huntChar c s).ins = s.ins ∧
    (huntChar c s).outs = s.outs ∧ (huntChar c s).result = s.result ∧ (huntChar c s).log = s.log ∧
    (huntChar c s).time = s.time ∧ (huntChar c s).host.replies = s.host.replies ∧
    (huntChar c s).host.tx = s.host.tx ∧ (huntChar c s).host.goodFrames = s.host.goodFrames ∧
    (huntChar c s).host.crcErrors = s.host.crcErrors ∧ (huntChar c s).host.framingErrors = s.host.framingErrors ∧
    (huntChar c s).host.framesSent = s.host.framesSent ∧ (huntChar c s).host.resetPending = s.host.resetPending ∧
    (huntChar c s).store = s.store ∧ (huntChar c s).free = s.free := by
  simp only [huntChar]; (repeat' split) <;> simp

@[simp] theorem frameLeft_frame (s : State) :
    (frameLeft s).pending = s.pending ∧ (frameLeft s).links = s.links ∧ (frameLeft s).force = s.force ∧
    (frameLeft s).strain = s.strain ∧ (frameLeft s).ext = s.ext ∧ (frameLeft s).motion = s.motion ∧
    (frameLeft s).loop = s.loop ∧ (frameLeft s).prot = s.prot ∧ (frameLeft s).seq = s.seq ∧
    (frameLeft s).mon = s.mon ∧ (frameLeft s).router = s.router ∧ (frameLeft s).ins = s.ins ∧
    (frameLeft s).outs = s.outs ∧ (frameLeft s).result = s.result ∧ (frameLeft s).log = s.log ∧
    (frameLeft s).time = s.time ∧ (frameLeft s).host.rx = s.host.rx ∧
    (frameLeft s).host.goodFrames = s.host.goodFrames ∧ (frameLeft s).host.crcErrors = s.host.crcErrors ∧
    (frameLeft s).host.framingErrors = s.host.framingErrors ∧ (frameLeft s).host.overruns = s.host.overruns ∧
    (frameLeft s).host.resetPending = s.host.resetPending ∧ (frameLeft s).store = s.store ∧
    (frameLeft s).free = s.free := by
  simp only [frameLeft]; (repeat' split) <;> simp

/-! ## Resets -/

@[simp] theorem resetAll_frame (s : State) :
    (resetAll s).pending = s.pending ∧ (resetAll s).motion.encA = s.motion.encA ∧
    (resetAll s).motion.encB = s.motion.encB := by
  simp [resetAll]

@[simp] theorem restartAll_frame (s : State) :
    (restartAll s).pending = s.pending ∧ (restartAll s).links = s.links ∧
    (restartAll s).router.routes = s.router.routes ∧ (restartAll s).ins = s.ins ∧
    (restartAll s).time.sec = s.time.sec ∧ (restartAll s).time.ns = s.time.ns ∧
    (restartAll s).time.frac = s.time.frac ∧ (restartAll s).time.step = s.time.step ∧
    (restartAll s).time.trim = s.time.trim ∧ (restartAll s).time.crystal = s.time.crystal ∧
    (restartAll s).store = s.store ∧ (restartAll s).free = s.free := by
  simp [restartAll]

end Sys2Proof.Machine
end

