-- ==== Sys2Proof/Laws/Arrival.lean ====
section
/-! SUPPORT. The end of an arrival on a quiet state, a request taken whole, and what the exits and hand-overs do, case by
case, and the force of a load frame: the lemmas that a statement about one arrival is proved from. -/

namespace Sys2Proof.Machine

/-- A trigger that no head segment takes leaves the motion queue, and with it the whole state, alone (04 R73). -/
theorem triggerHead_other (n : Nat) (s : State) (h : s.NoHeadFor n) : triggerHead n s = s := by
  unfold triggerHead
  cases hw : s.motion.waitingHead with
  | none => rfl
  | some seg =>
    rcases h with h | h
    · simp [h]
    · simp [h seg (by simp [hw])]

/-! ## Nothing waits to be given on -/

/-- With no firing kept there is none to give on. -/
@[simp] theorem giveFirings_none (inExit : Bool) (s : State) (h : s.mon.fired = []) : giveFirings inExit s = s := by
  have hm : ({ bank := s.mon.bank, fired := [] } : MonitorBank) = s.mon := by rw [← h]
  simp only [giveFirings, giveKept, h, List.foldl_nil, hm]

/-- `f` leaves no firing kept. -/
abbrev Clears (f : State → State) : Prop := ∀ s : State, (f s).mon.fired = []

/-- `f` keeps no firing where none was kept. -/
abbrev StaysClear (f : State → State) : Prop := ∀ s : State, s.mon.fired = [] → (f s).mon.fired = []

theorem enterNext_clear {give : Bool → State → State} (hg : ∀ e, Clears (give e)) (fromHold : Bool) :
    StaysClear (enterNext give fromHold) := by
  intro s h
  simp only [enterNext, enterPhase_frame]
  split
  · exact hg true _
  · exact h

theorem takeExit_clear {give : Bool → State → State} (hg : ∀ e, Clears (give e)) (fuel : Nat) (fromHold : Bool) :
    StaysClear (takeExit give fuel fromHold) := by
  induction fuel generalizing fromHold with
  | zero => intro s h; exact h
  | succ n ih =>
    intro s h
    have hn := enterNext_clear hg fromHold s h
    simp only [takeExit]
    (repeat' split) <;> simp_all [ih false _ hn]

theorem leavePhase_clear {give : Bool → State → State} (hg : ∀ e, Clears (give e)) (fromHold : Bool) :
    StaysClear (leavePhase give fromHold) := takeExit_clear hg 8 fromHold

theorem exitMet_clear {give : Bool → State → State} (hg : ∀ e, Clears (give e)) : StaysClear (exitMet give) := by
  intro s h
  simp only [exitMet]
  split <;> simp [leavePhase_clear hg, h]

theorem tellExit_clear {give : Bool → State → State} (hg : ∀ e, Clears (give e)) (k : ExitKind) : StaysClear (tellExit give k) := by
  intro s h
  simp only [tellExit]
  split
  · exact exitMet_clear hg s h
  · exact h

theorem heldLeft_clear {give : Bool → State → State} (hg : ∀ e, Clears (give e)) : StaysClear (heldLeft give) := by
  intro s h
  simp only [heldLeft]
  (repeat' split) <;> simp [leavePhase_clear hg, h]

theorem handOver_clear {give : Bool → State → State} (hg : ∀ e, Clears (give e)) (new : Source) : StaysClear (handOver give new) := by
  intro s h
  simp only [handOver]
  split
  · split
    · exact tellExit_clear hg _ _ (by simp [hg false _])
    · simp [hg false _]
  · exact h

theorem orderHandover_clear {give : Bool → State → State} (hg : ∀ e, Clears (give e)) (x : ExtNo) :
    StaysClear (orderHandover give x) := by
  intro s h
  simp only [orderHandover]
  split
  · exact handOver_clear hg _ _ (by cases x <;> (repeat' split) <;> simp [h])
  · exact h

theorem confirmRemoval_clear {give : Bool → State → State} (hg : ∀ e, Clears (give e)) (kind : Confirmation) :
    StaysClear (confirmRemoval give kind) := by
  intro s h
  simp only [confirmRemoval]
  split
  · exact h
  · simp only [raise_frame, removePrimary_frame]
    exact heldLeft_clear hg _ (by split <;> simp [h, orderHandover_clear hg .primary s h])
  · simp [h]

theorem askRemoval_clear {give : Bool → State → State} (hg : ∀ e, Clears (give e)) (e : Int) : StaysClear (askRemoval give e) := by
  intro s h
  simp only [askRemoval]
  split
  · exact confirmRemoval_clear hg _ _ (by simp [h])
  · simp [h]

theorem removalCondition_clear {give : Bool → State → State} (hg : ∀ e, Clears (give e)) (c : RemovalCond) :
    StaysClear (removalCondition give c) := by
  intro s h
  simp only [removalCondition]
  split
  · split
    · exact h
    · exact askRemoval_clear hg _ _ (by simp [h])
    · simp only [startFly, abandonIfOver_frame]
      exact askRemoval_clear hg _ _ (by simp [orderHandover_clear hg .primary s h])
  · exact h

theorem giveFiring_clear {give : Bool → State → State} (hg : ∀ e, Clears (give e)) (inExit : Bool) (m : Fin 8) (v : Int) :
    StaysClear (giveFiring give inExit m v) := by
  intro s h
  simp only [giveFiring, raise_frame]
  exact removalCondition_clear hg _ _ (by split <;> simp [exitMet_clear hg s, h])

theorem giveKept_clears (fuel : Nat) (inExit : Bool) : Clears (giveKept fuel inExit) := by
  induction fuel generalizing inExit with
  | zero => intro s; rfl
  | succ n ih =>
    have step : ∀ (l : List (Fin 8 × Int)) (t : State), t.mon.fired = [] →
        (l.foldl (fun t f => giveFiring (fun e => giveKept n (inExit || e)) inExit f.1 f.2 t) t).mon.fired = [] := by
      intro l
      induction l with
      | nil => intro t h; exact h
      | cons a l il => intro t h; exact il _ (giveFiring_clear (fun e => ih (inExit || e)) inExit a.1 a.2 t h)
    intro s
    exact step _ _ rfl

/-- The giving on leaves no firing kept (08 R154). -/
@[simp] theorem giveFirings_clears (inExit : Bool) : Clears (giveFirings inExit) := giveKept_clears 8 inExit

@[simp] theorem drainEvents_none (s : State) (h : s.router.raised = []) : drainEvents s = s := by
  simp only [drainEvents, drainFuel, h]

/-- The end of an arrival that leaves no event: only the arbiter acts. -/
theorem settle_quiet (s : State) (h : s.Quiet) : settle s = drainEvents (transmit s) := by
  simp only [settle, drainEvents_none s h.1]

@[simp] theorem transmit_busy (s : State) (h : s.host.tx ≠ .idle) : transmit s = s := by
  simp only [transmit, bne_iff_ne, ne_eq, h, not_false_eq_true, if_true]

/-- While a frame is being sent a quiet state ends an arrival as it is. -/
theorem settle_busy (s : State) (h : s.Quiet) (hb : s.host.tx ≠ .idle) : settle s = s := by
  rw [settle_quiet s h, transmit_busy s hb, drainEvents_none s h.1]

/-- With a reply waiting the arbiter takes it on an idle line, whatever else waits (11 R202). -/
theorem transmit_reply (s : State) (h : s.host.replies ≠ []) :
    transmit s = { s with host := { s.host with tx := if s.host.tx = .idle then .reply else s.host.tx } } := by
  by_cases hi : s.host.tx = .idle
  · have he : s.host.replies.isEmpty = false := by cases hr : s.host.replies with
      | nil => exact absurd hr h
      | cons _ _ => rfl
    simp [transmit, hi, he]
  · simp [transmit, hi]

/-- A reply joins its queue at the end of an arrival that leaves nothing else waiting. -/
theorem settle_pushReply (r : Reply) (s : State) (h : s.Quiet) :
    settle (pushReply r s) = { s with host := { s.host with
      replies := s.host.replies ++ [r], tx := if s.host.tx = .idle then .reply else s.host.tx } } := by
  rw [settle_quiet _ (show (pushReply r s).Quiet from h), transmit_reply _ (by simp [pushReply])]
  exact drainEvents_none _ (show s.router.raised = [] from h.1)

/-! ## A request taken whole -/

/-- The state that a request's owner sees: the frame counted, the receiver back in HUNT (11 R200, R206). -/
def counted (s : State) : State :=
  { s with host := { s.host with rx := .hunt, goodFrames := satU32 (s.host.goodFrames + 1) } }

/-- A listening receiver takes a request that fits a frame as one arrival. -/
theorem hostRequest_listening (kind : Nat) (tag : Byte) (p : List Byte) (handle : List Byte → State → Answer) (s : State)
    (h : s.Listening) (hp : p.length ≤ 232) : hostRequest kind tag p handle s = goodRequest kind tag p handle s := by
  obtain ⟨h1, h2, h3⟩ := h
  have ht : s.takesFrame p = true := by
    simp [State.takesFrame, h1, h3, Config.replyCapacity, h2, Config.maxPayload, hp]
  simp only [hostRequest, ht, if_true]

/-- A request of the catalogue with an allowed length that its owner may take: the owner's answer, its reply, and the
end of the arrival. -/
theorem goodRequest_owner (kind : Nat) (tag : Byte) (p : List Byte) (handle : List Byte → State → Answer) (s : State)
    (ls : List Nat) (hk : lengthsOf kind = some ls) (hl : ls.contains p.length = true)
    (hr : s.store.ready = true ∨ kind = 1) :
    goodRequest kind tag p handle s =
      settle (pushReply (replyOf kind tag (handle p (counted s)).2) (handle p (counted s)).1) := by
  have hb : (!s.store.ready && kind != 0x01) = false := by
    cases hr with
    | inl h => simp [h]
    | inr h => simp [h]
  simp only [goodRequest, answerRequest, counted, hk, hl, hb, Bool.not_true, Bool.false_eq_true, if_false]

/-- A request whose owner leaves no event and no firing: the owner's state with its reply pending. -/
theorem hostRequest_quiet (kind : Nat) (tag : Byte) (p : List Byte) (handle : List Byte → State → Answer) (s : State)
    (ls : List Nat) (h : s.Receptive) (hp : p.length ≤ 232) (hk : lengthsOf kind = some ls)
    (hl : ls.contains p.length = true) (hq : (handle p (counted s)).1.Quiet) :
    hostRequest kind tag p handle s =
      { (handle p (counted s)).1 with host := { (handle p (counted s)).1.host with
          replies := (handle p (counted s)).1.host.replies ++ [replyOf kind tag (handle p (counted s)).2]
          tx := if (handle p (counted s)).1.host.tx = .idle then .reply else (handle p (counted s)).1.host.tx } } := by
  rw [hostRequest_listening kind tag p handle s h.2.2 hp,
    goodRequest_owner kind tag p handle s ls hk hl (.inl h.1), settle_pushReply _ _ hq]

/-- The state that the owner sees is the state itself but for the count, where the receiver hunts. -/
theorem counted_eq (s : State) (h : s.host.rx = .hunt) :
    counted s = { s with host := { s.host with goodFrames := satU32 (s.host.goodFrames + 1) } } := by
  simp only [counted, h]

/-- A request that changes nothing of the host link and leaves nothing waiting, as the statements name it: from what
its owner answers on the counted state. -/
theorem hostRequest_replied (kind : Nat) (tag : Byte) (p : List Byte) (handle : List Byte → State → Answer) (s t : State)
    (ls : List Nat) (r : Except Reason (List Byte)) (h : s.Receptive) (hp : p.length ≤ 232)
    (hk : lengthsOf kind = some ls) (hl : ls.contains p.length = true)
    (ha : handle p (counted s) = (counted t, r)) (ht : t.Quiet) (hx : t.host.rx = .hunt) :
    hostRequest kind tag p handle s = replied kind tag r t := by
  have hq : (handle p (counted s)).1.Quiet := by rw [ha]; exact ht
  rw [hostRequest_quiet kind tag p handle s ls h hp hk hl hq, ha]
  simp only [counted, replied, ← hx]

/-! ## Bytes -/

/-- The number spelled by the lowest `k` bytes of `n`. -/
theorem natOf_append (xs ys : List Byte) : natOf (xs ++ ys) = natOf xs * 256 ^ ys.length + natOf ys := by
  have key : ∀ (zs : List Byte) (a : Nat),
      zs.foldl (fun acc (b : Byte) => acc * 256 + b.toNat) a =
        a * 256 ^ zs.length + zs.foldl (fun acc (b : Byte) => acc * 256 + b.toNat) 0 := by
    intro zs
    induction zs with
    | nil => intro a; simp
    | cons z zs ih =>
      intro a
      simp only [List.foldl_cons, List.length_cons]
      rw [ih (a * 256 + z.toNat), ih (0 * 256 + z.toNat)]
      simp only [Nat.pow_succ, Nat.add_mul, Nat.zero_mul, Nat.zero_add]
      rw [Nat.mul_assoc, Nat.mul_comm 256, Nat.add_assoc]
  simp only [natOf, List.foldl_append]
  exact key ys _

@[simp] theorem length_bytesOf (k n : Nat) : (bytesOf k n).length = k := by
  induction k with
  | zero => rfl
  | succ k ih => simp only [bytesOf, List.length_cons, ih]

/-- Writing a number as `k` bytes and reading it again keeps its lowest `8 k` bits. -/
theorem natOf_bytesOf (k n : Nat) : natOf (bytesOf k n) = n % 256 ^ k := by
  induction k with
  | zero => simp [bytesOf, natOf, Nat.mod_one]
  | succ k ih =>
    have hs : bytesOf (k + 1) n = [BitVec.ofNat 8 (n / 256 ^ k)] ++ bytesOf k n := rfl
    have h1 : natOf [BitVec.ofNat 8 (n / 256 ^ k)] = n / 256 ^ k % 256 := by simp [natOf]
    rw [hs, natOf_append, ih, length_bytesOf, h1, Nat.pow_succ, Nat.mod_mul, Nat.mul_comm, Nat.add_comm]

/-! ## Saturation -/

theorem sat32_bounds (x : Int) : -2147483648 ≤ sat32 x ∧ sat32 x ≤ 2147483647 := by
  simp only [sat32, clampTo]; omega

theorem sat32_of_fits (x : Int) (h : -2147483648 ≤ x ∧ x ≤ 2147483647) : sat32 x = x := by
  simp only [sat32, clampTo]; omega

theorem satU32_bound (n : Nat) : satU32 n ≤ 4294967295 := by
  simp only [satU32]; omega

theorem satU16_bound (n : Nat) : satU16 n ≤ 65535 := by
  simp only [satU16]; omega

theorem clampMag_bounds (m : Nat) (x : Int) : (clampMag m x).natAbs ≤ m := by
  simp only [clampMag, clampTo]; omega

/-! ## What the exits and hand-overs do, case by case -/

/-- An exit met in RUNNING is taken at once (07 R132). -/
theorem exitMet_running (give : Bool → State → State) {s : State} (h : s.seq.state = .running) :
    exitMet give s = leavePhase give false s := by simp only [exitMet, h]

/-- An exit met in HELD is pending (07 R132). -/
theorem exitMet_held (give : Bool → State → State) {s : State} (h : s.seq.state = .held) :
    exitMet give s = { s with seq := { s.seq with pendingExit := true } } := by simp only [exitMet, h]

/-- An exit met outside RUNNING and HELD has no effect (07 R132). -/
theorem exitMet_outside (give : Bool → State → State) {s : State} (h : s.inTest = false) : exitMet give s = s := by
  cases q : s.seq.state <;> simp_all [exitMet, State.inTest]

/-- A condition of another kind than the phase's exit has no effect (07 R132). -/
theorem tellExit_other (give : Bool → State → State) {k : ExitKind} {s : State} (h : s.curPhase.exit ≠ k) :
    tellExit give k s = s := by simp [tellExit, h]

/-- An order that does not name a later source changes nothing (02 R34). -/
theorem handOver_back (give : Bool → State → State) {new : Source} {s : State}
    (h : sourceCode new ≤ sourceCode s.strain.source) : handOver give new s = s := by
  simp [handOver, Nat.not_lt.mpr h]

/-- The active strain stands over a hand-over's stitching (02 R33). -/
theorem stitched_active (x : Source) {s : State} (h : s.StrainFits) :
    (formActive (s.reading x) { s with strain := s.stitchedOnto x }).strain.active = s.strain.active := by
  have e : s.readingOf x = s.reading x := by cases x <;> rfl
  simp only [formActive, evalMonitors_frame, State.stitchedOnto, e, sat32, clampTo]
  omega

/-- A FLY removal whose hand-over leaves the test under way goes on (03 R51). -/
theorem abandonIfOver_in_test {s : State} (h : s.inTest = true) : abandonIfOver s = s := by simp [abandonIfOver, h]

/-! ## A load frame -/

/-- The force that a load reading forms is the one that its frame publishes (01 R11 to R13, R18). -/
theorem formForce_f (st d2 d1 d0 : Byte) (s : State) :
    (formForce (st.toNat % 4) (st.getLsbD 2) (d2 ++ d1 ++ d0).toInt s).force.f = s.frameForce st d2 d1 d0 := by
  simp only [formForce, State.frameForce, overrangeReading, Bool.or_eq_true, decide_eq_true_eq, or_assoc]
  by_cases h : st.getLsbD 2 = true ∨ 8388352 ≤ (d2 ++ d1 ++ d0).toInt ∨ (d2 ++ d1 ++ d0).toInt ≤ -8388352
  · rw [if_pos h, if_pos (by rcases h with k | k | k <;> simp [k])]; simp
  · by_cases hg : (s.store.cal.range (st.toNat % 4)).gain = 0
    · rw [if_neg h, if_pos hg, if_pos (.inr (.inr (.inr hg)))]; simp
    · rw [if_neg h, if_neg hg, if_neg (by simpa only [not_or, hg, not_false_eq_true, and_true] using h)]
      simp only [flagNear_frame, convertLoad, untared]
      cases s.force.tareOp with
      | none => rfl
      | some op =>
        by_cases ho : op.count + 1 < 16
        · simp [ho, show ¬ 15 ≤ op.count by omega]
        · simp [ho, show 15 ≤ op.count by omega]

end Sys2Proof.Machine
end

