-- ==== Sys2Proof/WellFormed.lean ====
section
/-! DEFINITION. Which commands the outside can send at all. `exec` is total and gives every term a meaning; a term
that fails this check stands for no arrival of the hardware. -/

namespace Sys2Proof

/-- A request's payload fits a frame (11 R199: LEN is 0 to 232). -/
def payloadFits (payload : List Byte) : Bool := payload.length ≤ Config.maxPayload

namespace Instr

/-- The form of a command: characters where an arrival is made of characters, a payload that fits a frame, an
unknown KIND that the catalogue does not hold, a read-back of one whole stored block. -/
def wellFormed : Instr → Bool
  | .powerOn => true
  | .calLoadEnd => true
  | .sensorFrame _ chars => !chars.isEmpty
  | .sensorCharGapTimeout _ => true
  | .silenceTimerExpiry _ => true
  | .removalTimerExpiry => true
  | .encoderTransition _ _ => true
  | .controlPeriod => true
  | .jogKeepaliveExpiry => true
  | .blankingTimerExpiry => true
  | .offTimeExpiry => true
  | .gripSettleTick => true
  | .inputRawChange _ _ => true
  | .inputFilterExpiry _ => true
  | .phaseTimerExpiry => true
  | .testTimeMsTick => true
  | .pulseTimerExpiry _ => true
  | .logIntervalExpiry => true
  | .millTimeStep => true
  | .hostCharGapTimeout => true
  | .hostSofOverrun => true
  | .hostFrameCrcError chars => !chars.isEmpty
  | .hostUnknownRequest kind _ payload => (Machine.lengthsOf kind.toNat).isNone && payloadFits payload
  | .transmitFrameEnd => true
  | .identify _ payload => payloadFits payload
  | .status _ payload => payloadFits payload
  | .stats _ payload => payloadFits payload
  | .getCal _ payload => payloadFits payload
  | .setCal _ payload => payloadFits payload
  | .saveCal _ payload => payloadFits payload
  | .saveEnd readBack => readBack.length == 512
  | .setSpecimen _ payload => payloadFits payload
  | .setMethod _ payload => payloadFits payload
  | .setPhase _ payload => payloadFits payload
  | .setMonitor _ payload => payloadFits payload
  | .setRoute _ payload => payloadFits payload
  | .setOutput _ payload => payloadFits payload
  | .setLoop _ payload => payloadFits payload
  | .setTravel _ payload => payloadFits payload
  | .tare _ payload => payloadFits payload
  | .zeroExt _ payload => payloadFits payload
  | .zeroPos _ payload => payloadFits payload
  | .enable _ payload => payloadFits payload
  | .disable _ payload => payloadFits payload
  | .move _ payload => payloadFits payload
  | .jog _ payload => payloadFits payload
  | .stop _ payload => payloadFits payload
  | .clearFault _ payload => payloadFits payload
  | .trigger _ payload => payloadFits payload
  | .arm _ payload => payloadFits payload
  | .hold _ payload => payloadFits payload
  | .resume _ payload => payloadFits payload
  | .endTest _ payload => payloadFits payload
  | .abort _ payload => payloadFits payload
  | .clearTest _ payload => payloadFits payload
  | .extConfirm _ payload => payloadFits payload
  | .readResult _ payload => payloadFits payload
  | .logStart _ payload => payloadFits payload
  | .logStop _ payload => payloadFits payload
  | .readLog _ payload => payloadFits payload
  | .stream _ payload => payloadFits payload
  | .setLog _ payload => payloadFits payload
  | .setTime _ payload => payloadFits payload
  | .adjustTime _ payload => payloadFits payload
  | .trimTime _ payload => payloadFits payload
  | .readTime _ payload => payloadFits payload
  | .reset _ payload => payloadFits payload
  | .resetTakesEffect => true
  | .restart _ payload => payloadFits payload
  | .restartTakesEffect => true
  | .hostFramingError chars => !chars.isEmpty

end Instr

end Sys2Proof
end

