-- ==== Sys2Proof/Laws/PerInstr.lean ====
section
/-! SUPPORT. The form of every command, constructor by constructor: a request has a KIND of the catalogue and is well
formed exactly when its payload fits a frame (11 R199, R201); of the others only those made of characters or bytes can
be ill formed. -/

namespace Sys2Proof.Laws

open Sys2Proof.Machine

/-- The form of a command. -/
def Form.Statement (i : Instr) : Prop :=
  match asRequest i with
  | some (kind, _, p) =>
    (lengthsOf kind).isSome = true ∧ fromMachine i = false ∧ (i.wellFormed = true ↔ p.length ≤ 232)
  | none =>
    i.wellFormed = true ∨ (∃ n, i = .sensorFrame n []) ∨ i = .hostFrameCrcError [] ∨ i = .hostFramingError [] ∨
      (∃ b, i = .saveEnd b ∧ b.length ≠ 512) ∨
      ∃ kind tag p, i = .hostUnknownRequest kind tag p ∧ ((lengthsOf kind.toNat).isSome = true ∨ 232 < p.length)

/-- A request's payload fits a frame exactly when it has at most 232 bytes. -/
theorem payloadFits_iff (p : List Byte) : payloadFits p = true ↔ p.length ≤ 232 :=
  decide_eq_true_iff

theorem Form.powerOn : Form.Statement .powerOn := .inl rfl

theorem Form.calLoadEnd : Form.Statement .calLoadEnd := .inl rfl

theorem Form.sensorFrame (n : Link) (chars : List SerialChar) : Form.Statement (.sensorFrame n chars) := by
  match chars with
  | [] => exact .inr (.inl ⟨n, rfl⟩)
  | _ :: _ => exact .inl rfl

theorem Form.sensorCharGapTimeout (n : Link) : Form.Statement (.sensorCharGapTimeout n) := .inl rfl

theorem Form.silenceTimerExpiry (n : Link) : Form.Statement (.silenceTimerExpiry n) := .inl rfl

theorem Form.removalTimerExpiry : Form.Statement .removalTimerExpiry := .inl rfl

theorem Form.encoderTransition (a b : Bool) : Form.Statement (.encoderTransition a b) := .inl rfl

theorem Form.controlPeriod : Form.Statement .controlPeriod := .inl rfl

theorem Form.jogKeepaliveExpiry : Form.Statement .jogKeepaliveExpiry := .inl rfl

theorem Form.blankingTimerExpiry : Form.Statement .blankingTimerExpiry := .inl rfl

theorem Form.offTimeExpiry : Form.Statement .offTimeExpiry := .inl rfl

theorem Form.gripSettleTick : Form.Statement .gripSettleTick := .inl rfl

theorem Form.inputRawChange (k : Fin 8) (level : Bool) : Form.Statement (.inputRawChange k level) := .inl rfl

theorem Form.inputFilterExpiry (k : Fin 8) : Form.Statement (.inputFilterExpiry k) := .inl rfl

theorem Form.phaseTimerExpiry : Form.Statement .phaseTimerExpiry := .inl rfl

theorem Form.testTimeMsTick : Form.Statement .testTimeMsTick := .inl rfl

theorem Form.pulseTimerExpiry (k : Fin 8) : Form.Statement (.pulseTimerExpiry k) := .inl rfl

theorem Form.logIntervalExpiry : Form.Statement .logIntervalExpiry := .inl rfl

theorem Form.millTimeStep : Form.Statement .millTimeStep := .inl rfl

theorem Form.hostCharGapTimeout : Form.Statement .hostCharGapTimeout := .inl rfl

theorem Form.hostSofOverrun : Form.Statement .hostSofOverrun := .inl rfl

theorem Form.hostFrameCrcError (chars : List SerialChar) : Form.Statement (.hostFrameCrcError chars) := by
  match chars with
  | [] => exact .inr (.inr (.inl rfl))
  | _ :: _ => exact .inl rfl

theorem Form.hostUnknownRequest (kind tag : Byte) (payload : List Byte) : Form.Statement (.hostUnknownRequest kind tag payload) := by
  by_cases hp : payload.length ≤ 232
  · by_cases hk : (lengthsOf kind.toNat).isSome = true
    · exact .inr (.inr (.inr (.inr (.inr ⟨kind, tag, payload, rfl, .inl hk⟩))))
    · refine .inl ?_
      have hn : (lengthsOf kind.toNat).isNone = true := by
        cases h : lengthsOf kind.toNat with
        | none => rfl
        | some ls => exact absurd (by simp [h]) hk
      simp [Instr.wellFormed, hn, (payloadFits_iff payload).mpr hp]
  · exact .inr (.inr (.inr (.inr (.inr ⟨kind, tag, payload, rfl, .inr (by omega)⟩))))

theorem Form.transmitFrameEnd : Form.Statement .transmitFrameEnd := .inl rfl

theorem Form.identify (tag : Byte) (payload : List Byte) : Form.Statement (.identify tag payload) := ⟨by decide, rfl, payloadFits_iff payload⟩

theorem Form.status (tag : Byte) (payload : List Byte) : Form.Statement (.status tag payload) := ⟨by decide, rfl, payloadFits_iff payload⟩

theorem Form.stats (tag : Byte) (payload : List Byte) : Form.Statement (.stats tag payload) := ⟨by decide, rfl, payloadFits_iff payload⟩

theorem Form.getCal (tag : Byte) (payload : List Byte) : Form.Statement (.getCal tag payload) := ⟨by decide, rfl, payloadFits_iff payload⟩

theorem Form.setCal (tag : Byte) (payload : List Byte) : Form.Statement (.setCal tag payload) := ⟨by decide, rfl, payloadFits_iff payload⟩

theorem Form.saveCal (tag : Byte) (payload : List Byte) : Form.Statement (.saveCal tag payload) := ⟨by decide, rfl, payloadFits_iff payload⟩

theorem Form.saveEnd (readBack : List Byte) : Form.Statement (.saveEnd readBack) := by
  by_cases h : readBack.length = 512
  · exact .inl (by simp [Instr.wellFormed, h])
  · exact .inr (.inr (.inr (.inr (.inl ⟨readBack, rfl, h⟩))))

theorem Form.setSpecimen (tag : Byte) (payload : List Byte) : Form.Statement (.setSpecimen tag payload) := ⟨by decide, rfl, payloadFits_iff payload⟩

theorem Form.setMethod (tag : Byte) (payload : List Byte) : Form.Statement (.setMethod tag payload) := ⟨by decide, rfl, payloadFits_iff payload⟩

theorem Form.setPhase (tag : Byte) (payload : List Byte) : Form.Statement (.setPhase tag payload) := ⟨by decide, rfl, payloadFits_iff payload⟩

theorem Form.setMonitor (tag : Byte) (payload : List Byte) : Form.Statement (.setMonitor tag payload) := ⟨by decide, rfl, payloadFits_iff payload⟩

theorem Form.setRoute (tag : Byte) (payload : List Byte) : Form.Statement (.setRoute tag payload) := ⟨by decide, rfl, payloadFits_iff payload⟩

theorem Form.setOutput (tag : Byte) (payload : List Byte) : Form.Statement (.setOutput tag payload) := ⟨by decide, rfl, payloadFits_iff payload⟩

theorem Form.setLoop (tag : Byte) (payload : List Byte) : Form.Statement (.setLoop tag payload) := ⟨by decide, rfl, payloadFits_iff payload⟩

theorem Form.setTravel (tag : Byte) (payload : List Byte) : Form.Statement (.setTravel tag payload) := ⟨by decide, rfl, payloadFits_iff payload⟩

theorem Form.tare (tag : Byte) (payload : List Byte) : Form.Statement (.tare tag payload) := ⟨by decide, rfl, payloadFits_iff payload⟩

theorem Form.zeroExt (tag : Byte) (payload : List Byte) : Form.Statement (.zeroExt tag payload) := ⟨by decide, rfl, payloadFits_iff payload⟩

theorem Form.zeroPos (tag : Byte) (payload : List Byte) : Form.Statement (.zeroPos tag payload) := ⟨by decide, rfl, payloadFits_iff payload⟩

theorem Form.enable (tag : Byte) (payload : List Byte) : Form.Statement (.enable tag payload) := ⟨by decide, rfl, payloadFits_iff payload⟩

theorem Form.disable (tag : Byte) (payload : List Byte) : Form.Statement (.disable tag payload) := ⟨by decide, rfl, payloadFits_iff payload⟩

theorem Form.move (tag : Byte) (payload : List Byte) : Form.Statement (.move tag payload) := ⟨by decide, rfl, payloadFits_iff payload⟩

theorem Form.jog (tag : Byte) (payload : List Byte) : Form.Statement (.jog tag payload) := ⟨by decide, rfl, payloadFits_iff payload⟩

theorem Form.stop (tag : Byte) (payload : List Byte) : Form.Statement (.stop tag payload) := ⟨by decide, rfl, payloadFits_iff payload⟩

theorem Form.clearFault (tag : Byte) (payload : List Byte) : Form.Statement (.clearFault tag payload) := ⟨by decide, rfl, payloadFits_iff payload⟩

theorem Form.trigger (tag : Byte) (payload : List Byte) : Form.Statement (.trigger tag payload) := ⟨by decide, rfl, payloadFits_iff payload⟩

theorem Form.arm (tag : Byte) (payload : List Byte) : Form.Statement (.arm tag payload) := ⟨by decide, rfl, payloadFits_iff payload⟩

theorem Form.hold (tag : Byte) (payload : List Byte) : Form.Statement (.hold tag payload) := ⟨by decide, rfl, payloadFits_iff payload⟩

theorem Form.resume (tag : Byte) (payload : List Byte) : Form.Statement (.resume tag payload) := ⟨by decide, rfl, payloadFits_iff payload⟩

theorem Form.endTest (tag : Byte) (payload : List Byte) : Form.Statement (.endTest tag payload) := ⟨by decide, rfl, payloadFits_iff payload⟩

theorem Form.abort (tag : Byte) (payload : List Byte) : Form.Statement (.abort tag payload) := ⟨by decide, rfl, payloadFits_iff payload⟩

theorem Form.clearTest (tag : Byte) (payload : List Byte) : Form.Statement (.clearTest tag payload) := ⟨by decide, rfl, payloadFits_iff payload⟩

theorem Form.extConfirm (tag : Byte) (payload : List Byte) : Form.Statement (.extConfirm tag payload) := ⟨by decide, rfl, payloadFits_iff payload⟩

theorem Form.readResult (tag : Byte) (payload : List Byte) : Form.Statement (.readResult tag payload) := ⟨by decide, rfl, payloadFits_iff payload⟩

theorem Form.logStart (tag : Byte) (payload : List Byte) : Form.Statement (.logStart tag payload) := ⟨by decide, rfl, payloadFits_iff payload⟩

theorem Form.logStop (tag : Byte) (payload : List Byte) : Form.Statement (.logStop tag payload) := ⟨by decide, rfl, payloadFits_iff payload⟩

theorem Form.readLog (tag : Byte) (payload : List Byte) : Form.Statement (.readLog tag payload) := ⟨by decide, rfl, payloadFits_iff payload⟩

theorem Form.stream (tag : Byte) (payload : List Byte) : Form.Statement (.stream tag payload) := ⟨by decide, rfl, payloadFits_iff payload⟩

theorem Form.setLog (tag : Byte) (payload : List Byte) : Form.Statement (.setLog tag payload) := ⟨by decide, rfl, payloadFits_iff payload⟩

theorem Form.setTime (tag : Byte) (payload : List Byte) : Form.Statement (.setTime tag payload) := ⟨by decide, rfl, payloadFits_iff payload⟩

theorem Form.adjustTime (tag : Byte) (payload : List Byte) : Form.Statement (.adjustTime tag payload) := ⟨by decide, rfl, payloadFits_iff payload⟩

theorem Form.trimTime (tag : Byte) (payload : List Byte) : Form.Statement (.trimTime tag payload) := ⟨by decide, rfl, payloadFits_iff payload⟩

theorem Form.readTime (tag : Byte) (payload : List Byte) : Form.Statement (.readTime tag payload) := ⟨by decide, rfl, payloadFits_iff payload⟩

theorem Form.reset (tag : Byte) (payload : List Byte) : Form.Statement (.reset tag payload) := ⟨by decide, rfl, payloadFits_iff payload⟩

theorem Form.resetTakesEffect : Form.Statement .resetTakesEffect := .inl rfl

theorem Form.restart (tag : Byte) (payload : List Byte) : Form.Statement (.restart tag payload) := ⟨by decide, rfl, payloadFits_iff payload⟩

theorem Form.restartTakesEffect : Form.Statement .restartTakesEffect := .inl rfl

theorem Form.hostFramingError (chars : List SerialChar) : Form.Statement (.hostFramingError chars) := by
  match chars with
  | [] => exact .inr (.inr (.inr (.inl rfl)))
  | _ :: _ => exact .inl rfl

end Sys2Proof.Laws
end

