-- ==== Sys2Proof/Laws/Routing.lean ====
section
/-! SUPPORT. One event under the route table: what the matching entries decide, as the statements say it, and the whole
effect of an event beside HOLD. -/

namespace Sys2Proof.Machine

/-- The things of an eightfold bank are those that its numbers name. -/
theorem Eight.mem_toList {α : Type} (v : Eight α) (a : α) : a ∈ v.toList ↔ ∃ k, v.get k = a := by
  constructor
  · intro h
    simp only [Eight.toList, List.mem_cons, List.not_mem_nil, or_false] at h
    rcases h with h | h | h | h | h | h | h | h
    · exact ⟨0, h.symm⟩
    · exact ⟨1, h.symm⟩
    · exact ⟨2, h.symm⟩
    · exact ⟨3, h.symm⟩
    · exact ⟨4, h.symm⟩
    · exact ⟨5, h.symm⟩
    · exact ⟨6, h.symm⟩
    · exact ⟨7, h.symm⟩
  · rintro ⟨k, rfl⟩
    match k with
    | 0 | 1 | 2 | 3 | 4 | 5 | 6 | 7 => simp [Eight.toList, Eight.get]

/-- An entry hits a code exactly where it matches it (08 R158). -/
theorem Route.hits_iff (s : State) (k : Fin 8) (code : Nat) :
    (s.router.routes.get k).hits code = true ↔ s.Hit k code := by
  simp [Route.hits, State.Hit]

/-- Some matching entry has a property exactly where an entry that matches has it (08 R158). -/
theorem matches_any (s : State) (code : Nat) (p : Route → Bool) :
    (s.matches code).any p = true ↔ ∃ k, s.Hit k code ∧ p (s.router.routes.get k) = true := by
  simp only [State.matches, List.any_filter, List.any_eq_true, Eight.mem_toList, Bool.and_eq_true]
  constructor
  · rintro ⟨r, ⟨k, rfl⟩, hr, hp⟩
    exact ⟨k, (Route.hits_iff s k code).1 hr, hp⟩
  · rintro ⟨k, hr, hp⟩
    exact ⟨_, ⟨k, rfl⟩, (Route.hits_iff s k code).2 hr, hp⟩

/-- The entry of highest index in a bank that passes a test, found from the top. -/
theorem Eight.getLast_filter {α : Type} (v : Eight α) (p : α → Bool) (k : Fin 8) (hk : p (v.get k) = true)
    (above : ∀ j, k < j → p (v.get j) = false) : (v.toList.filter p).getLast? = some (v.get k) := by
  rw [List.getLast?_eq_head?_reverse, ← List.filter_reverse, List.head?_filter]
  match k with
  | 0 | 1 | 2 | 3 | 4 | 5 | 6 | 7 =>
    have h1 := above 1; have h2 := above 2; have h3 := above 3; have h4 := above 4
    have h5 := above 5; have h6 := above 6; have h7 := above 7
    simp [Eight.get] at hk h1 h2 h3 h4 h5 h6 h7
    simp [Eight.toList, Eight.get, *]

/-- Where an entry passes a test, one of them has the highest index. -/
theorem Eight.last_exists {α : Type} (v : Eight α) (p : α → Bool) (h : ∃ k, p (v.get k) = true) :
    ∃ k, p (v.get k) = true ∧ ∀ j, k < j → p (v.get j) = false := by
  obtain ⟨k, hk⟩ := h
  induction hn : 7 - k.val using Nat.strongRecOn generalizing k with
  | _ n ih =>
    by_cases ha : ∃ j, k < j ∧ p (v.get j) = true
    · obtain ⟨j, hj, hp⟩ := ha
      exact ih (7 - j.val) (by have := j.isLt; have : k.val < j.val := hj; omega) j hp rfl
    · exact ⟨k, hk, fun j hj => by
        cases hc : p (v.get j) with
        | false => rfl
        | true => exact absurd ⟨j, hj, hc⟩ ha⟩

/-- The notify setting is the one of the matching entry of highest index (08 R158). -/
theorem isNotify_matches (s : State) (code : Nat) : isNotify (s.matches code) = false ↔ s.Silenced code := by
  by_cases h : ∃ k, (s.router.routes.get k).hits code = true
  · obtain ⟨k, hk, above⟩ := Eight.last_exists s.router.routes (fun r => r.hits code) h
    have hl := Eight.getLast_filter s.router.routes (fun r => r.hits code) k hk above
    simp only [isNotify, State.matches, hl, Bool.not_eq_false']
    constructor
    · intro hs
      exact ⟨k, (Route.hits_iff s k code).1 hk, hs, fun j hj hh => by
        have := above j hj; simp [(Route.hits_iff s j code).2 hh] at this⟩
    · rintro ⟨j, hh, hs, habove⟩
      have hj := (Route.hits_iff s j code).2 hh
      by_cases e : j = k
      · exact e ▸ hs
      · exfalso
        by_cases hlt : k < j
        · have := above j hlt; simp [hj] at this
        · exact habove k (by
            have : j.val ≠ k.val := fun hv => e (Fin.ext hv)
            have : ¬ k.val < j.val := hlt
            show j.val < k.val
            omega) ((Route.hits_iff s k code).1 hk)
  · have hn : (s.matches code) = [] := by
      simp only [State.matches, List.filter_eq_nil_iff, Eight.mem_toList]
      rintro r ⟨k, rfl⟩ hr
      exact h ⟨k, hr⟩
    simp only [hn, isNotify, List.getLast?_nil, Bool.true_eq_false, false_iff]
    rintro ⟨k, hh, _⟩
    exact h ⟨k, (Route.hits_iff s k code).2 hh⟩

/-- A line is in a union of masks where it is in one of them. -/
theorem unionMask_bit (l : List Route) (m : Byte) (i : Nat) :
    (l.foldl (fun m r => m ||| r.mask) m).getLsbD i = (m.getLsbD i || l.any (fun r => r.mask.getLsbD i)) := by
  induction l generalizing m with
  | nil => simp
  | cons a l ih => simp only [List.foldl_cons, ih, BitVec.getLsbD_or, List.any_cons, Bool.or_assoc]

/-- The combined mask names a line exactly where a matching entry does (08 R158). -/
theorem unionMask_matches (s : State) (code : Nat) (j : Fin 8) :
    (unionMask (s.matches code)).getLsbD j.val = true ↔ s.Pulses code j := by
  have := matches_any s code (fun r => r.mask.getLsbD j.val)
  have hz : (0 : Byte).getLsbD j.val = false := by simp
  rw [unionMask, unionMask_bit, hz, Bool.false_or]
  exact this

/-- What one pulse of a mask makes of a line (08 R166). -/
def pulsedLine (mask : Byte) (s : State) (j : Fin 8) : Output :=
  if mask.getLsbD j.val = true ∧ (s.outs.get j).source = .pulse then
    { s.outs.get j with pulse := some (s.time.crystal + (s.outs.get j).width * 1000) }
  else s.outs.get j

/-- Pulses taken line by line: each line named in the mask once, the others as they were. -/
theorem pulseLines_fold (mask : Byte) (l : List (Fin 8)) (s : State) :
    ∃ outs, l.foldl (fun t k => if mask.getLsbD k.val then pulseLine t k else t) s = { s with outs := outs } ∧
      ∀ j, outs.get j = if j ∈ l then pulsedLine mask s j else s.outs.get j := by
  induction l generalizing s with
  | nil => exact ⟨s.outs, rfl, fun j => by simp⟩
  | cons a l ih =>
    by_cases h : mask.getLsbD a.val = true ∧ (s.outs.get a).source = .pulse
    · obtain ⟨outs, he, hg⟩ := ih (pulseLine s a)
      refine ⟨outs, ?_, fun j => ?_⟩
      · simp only [List.foldl_cons, h.1, if_true, he]
        simp [pulseLine, h.2]
      · rw [hg j]
        have hp : pulseLine s a = { s with outs := s.outs.set a { s.outs.get a with
            pulse := some (s.time.crystal + (s.outs.get a).width * 1000) } } := by
          simp [pulseLine, h.2, State.after]
        by_cases hj : j = a
        · subst hj
          simp [pulsedLine, hp, h.1, h.2]
        · simp [pulsedLine, hp, hj, Eight.get_set_ne]
    · obtain ⟨outs, he, hg⟩ := ih s
      refine ⟨outs, ?_, fun j => ?_⟩
      · have hs : (if mask.getLsbD a.val = true then pulseLine s a else s) = s := by
          split
          · next hm => simp [pulseLine, show ¬ (s.outs.get a).source = .pulse from fun hq => h ⟨hm, hq⟩]
          · rfl
        simp only [List.foldl_cons, hs, he]
      · rw [hg j]
        by_cases hj : j = a
        · subst hj
          simp only [pulsedLine, if_neg h, ite_self]
        · simp [hj]

/-- The pulses of a mask (08 R166). -/
theorem pulseLines_eq (mask : Byte) (s : State) :
    pulseLines mask s = { s with outs := ⟨pulsedLine mask s 0, pulsedLine mask s 1, pulsedLine mask s 2,
      pulsedLine mask s 3, pulsedLine mask s 4, pulsedLine mask s 5, pulsedLine mask s 6, pulsedLine mask s 7⟩ } := by
  obtain ⟨outs, he, hg⟩ := pulseLines_fold mask indices s
  have ho : outs = ⟨pulsedLine mask s 0, pulsedLine mask s 1, pulsedLine mask s 2, pulsedLine mask s 3,
      pulsedLine mask s 4, pulsedLine mask s 5, pulsedLine mask s 6, pulsedLine mask s 7⟩ :=
    Eight.ext_get _ _ fun j => by
      rw [hg j]
      match j with
      | 0 | 1 | 2 | 3 | 4 | 5 | 6 | 7 => simp [indices, Eight.get]
  rw [pulseLines, he, ho]

/-- One event without HOLD, with no gap pending or no MARK named: the notice, the MARK and the pulses that the route table
gives it (08 R158 to R160, R166, 10 R192). -/
theorem routeEvent_routed (e : EventRecord) (s : State) (hh : ¬ s.HeldBy e.code)
    (hg : s.log.gap = 0 ∨ ¬ s.Marked e.code) : routeEvent e s = s.routed e := by
  have hhold : (s.matches e.code).any (fun r => r.hold) = false :=
    Bool.eq_false_iff.2 fun h => hh ((matches_any s e.code _).1 h)
  have hnote : (if isNotify (s.matches e.code) then offerNotice e s else s) =
      { s with router := if s.Silenced e.code then s.router else s.router.offered e } := by
    by_cases hs : s.Silenced e.code
    · simp [hs, (isNotify_matches s e.code).2 hs]
    · have hn : isNotify (s.matches e.code) = true := by
        cases hi : isNotify (s.matches e.code) with
        | true => rfl
        | false => exact absurd ((isNotify_matches s e.code).1 hi) hs
      by_cases hl : s.router.notices.length < 32 <;>
        simp [hs, hn, hl, offerNotice, Router.offered, Config.noticeCapacity, satU16, Nat.min_comm]
  have hline : ∀ (t : State) (j : Fin 8), t.outs = s.outs → t.time = s.time →
      pulsedLine (unionMask (s.matches e.code)) t j =
        if s.Pulses e.code j ∧ (s.outs.get j).source = .pulse then
          { s.outs.get j with pulse := some (s.time.crystal + (s.outs.get j).width * 1000) }
        else s.outs.get j := by
    intro t j ho ht
    simp only [pulsedLine, ho, ht]
    by_cases hp : s.Pulses e.code j
    · simp only [(unionMask_matches s e.code j).2 hp, hp, true_and]
    · have hf : (unionMask (s.matches e.code)).getLsbD j.val = false :=
        Bool.eq_false_iff.2 fun h => hp ((unionMask_matches s e.code j).1 h)
      simp only [hf, hp, Bool.false_eq_true, false_and, if_false]
  simp only [routeEvent, hnote, hhold]
  by_cases hm : s.Marked e.code
  · have hany : (s.matches e.code).any (fun r => r.mark) = true := (matches_any s e.code _).2 hm
    have hgap : s.log.gap = 0 := hg.resolve_right (fun h => h hm)
    by_cases hr : s.log.ring.length < 4096
    · have hf : 4096 - s.log.ring.length ≠ 0 := by omega
      simp [hany, markLog, hgap, State.logFree, Config.ringCapacity, hf, pushLog, State.logStamp, pulseLines_eq, hline,
        State.routed, hm, hr, State.phaseTag, State.logSource, State.position, State.testing, State.inTest]
    · have hf : 4096 - s.log.ring.length = 0 := by omega
      simp [hany, markLog, hgap, State.logFree, Config.ringCapacity, hf, pulseLines_eq, hline, State.routed, hr]
      rw [← hgap]
  · have hany : (s.matches e.code).any (fun r => r.mark) = false :=
      Bool.eq_false_iff.2 fun h => hm ((matches_any s e.code _).1 h)
    simp only [hany, pulseLines_eq, hline, State.routed, hm, false_and, if_false, Bool.false_eq_true]
end Sys2Proof.Machine
end

