-- ==== Sys2Proof/Tests/Slice0.lean ====
section
/-! SUPPORT. Tests. First the checks of well-formedness, then one arrival at a time on small states, with expected
values from the rules and from the worked examples of the spec (named at each), then a state for each statement that
has hypotheses, which meets them all. -/

open Sys2Proof Sys2Proof.Machine

namespace Sys2Proof.Tests

-- one theorem at a time, so that the elaborator does not hold a thread for each
set_option Elab.async false

/-! ## Well-formedness: an ill-formed term for each check -/

theorem test_wf_sensor_frame_needs_characters : (Instr.sensorFrame .slr0 []).wellFormed = false := by decide

theorem test_wf_crc_error_needs_characters : (Instr.hostFrameCrcError []).wellFormed = false := by decide

theorem test_wf_framing_error_needs_characters : (Instr.hostFramingError []).wellFormed = false := by decide

theorem test_wf_payload_fits_frame :
    (Instr.identify 0 (List.replicate 233 0)).wellFormed = false ∧
    (Instr.identify 0 (List.replicate 232 0)).wellFormed = true := by decide +kernel

theorem test_wf_unknown_kind_outside_catalogue :
    (Instr.hostUnknownRequest 0x01 0 []).wellFormed = false ∧ (Instr.hostUnknownRequest 0x04 0 []).wellFormed = true := by
  decide

theorem test_wf_read_back_is_a_block :
    (Instr.saveEnd [0]).wellFormed = false ∧ (Instr.saveEnd (List.replicate 512 0)).wellFormed = true := by
  decide +kernel

theorem test_no_word_spells_a_command : decodeTableWord 8 0 = none := rfl

/-! ## States to test on -/

/-- The state after a command; the state itself where the command stops. -/
def after (c : Instr) (s : State) : State :=
  match exec c s with
  | .next t => t
  | .fault _ => s
  | .refused _ => s

/-- READY, calibrated, every input asserted but the switches, the drive fault and the arms; every receiver LOCKED at
sequence number 52 with no character of a frame stored; the specimen of the spec's examples. -/
def bench : State :=
  let r : Receiver := { Receiver.init with lock := .locked, cg := 8, lastSeq := some 52, silence := some 900 }
  let on : Input := { raw := true, filtered := true, asserted := true, timer := none }
  { State.reset with
    store := { State.reset.store with
      ready := true, calValid := true
      cal := { Calibration.default with
        range1 := { zero := 1000, gain := 13107200 }, fcap := 120000000, flim := 110000000, pitchPrim := 640,
        pitchSec := 640, encPitch := 2000, compliance := 1000, vmax := 500000, amax := 2000000, blankingMs := 5,
        retryEnable := true, offTimeMs := 250, retryLimit := 2 } }
    ins := { State.reset.ins with e0 := on, e4 := on }
    links := { slr0 := r, slr1 := r, slr2 := r }
    strain := { State.reset.strain with specimen :=
      { area := 785398, lc := 60000, l0Prim := 50000, l0Sec := 50000, eMin := 150000, eMax := 250000 } }
    motion := { State.reset.motion with ceiling := 500000, blind := false } }

/-- A test in phase 2 of the spec's method (05, worked example): STRAIN_RATE at 2,500 su/s on the primary. -/
def testing : State :=
  let strainPhase : Phase := { mode := .strainRate, rate := 2500, vmax := 50000, exit := .time, arg := 24 }
  let positionPhase : Phase := { mode := .positionRate, rate := 40000, vmax := 60000, exit := .fractureOnly, arg := 0 }
  { bench with
    motion := { bench.motion with
      state := .test, driveEn := true, ceiling := 50000, lastDemand := 15500, sign := some true }
    loop := { bench.loop with
      gPos := { kp := 655360, ki := 1310720 }, gStrain := { kp := 2621440, ki := 131072 }, mode := some .strainRate,
      rate := 2500, acc := 40000000, target := 20000, integ := 300, prev := 15500 }
    strain := { bench.strain with source := .primary, active := 19990 }
    ext := { bench.ext with primary := { bench.ext.primary with state := .active, zeroed := true, strain := 19990 } }
    seq := { bench.seq with
      state := .running, phase := 2, phaseStart := some 0
      method := { Method.default with phaseCount := 4, policy := .pause, cond := some (.monitor 2), proofOffset := 20000 }
      phases := { bench.seq.phases with e2 := strainPhase, e3 := positionPhase } }
    result := { bench.result with record := some (ResultRecord.opened .primary) }
    time := { bench.time with testRunning := true, testTime := 41250000, crystal := 41250000 }
    log := { bench.log with state := .running, due := some 41260000 } }

/-- The codes of the notices that wait. -/
def noticeCodes (s : State) : List Nat := s.router.notices.map (fun e => e.code)

/-- HTXD busy with a notice, so that every notice stays in its queue. -/
def lineBusy (s : State) : State := { s with host := { s.host with tx := .notice ⟨0x0601, 0, 0, 0, 255, 0⟩ } }

/-! ## Check codes (11 R199, R207): the check values that the generators are published with -/

theorem test_crc16_check_value : crc16 [0x31, 0x32, 0x33, 0x34, 0x35, 0x36, 0x37, 0x38, 0x39] = 0x29B1 := by
  decide +kernel

theorem test_crc32_check_value : crc32 [0x31, 0x32, 0x33, 0x34, 0x35, 0x36, 0x37, 0x38, 0x39] = 0xFC891918 := by
  decide +kernel

/-! ## Sensor links and force -/

/-- 01, worked example: range 1, raw 502,345, tare 25,000. -/
theorem test_sensor_frame_force_and_stress :
    let s := { bench with force := { bench.force with tare := 25000 } }
    let t := after (.sensorFrame .slr0 (sensorFrameChars 0x01 0x07 0xAA 0x49 53 0xD0)) s
    t.force.f = 6241813 ∧ t.strain.stress = 794732 ∧ t.force.liveNear = false := by decide +kernel

/-- 02 R30: the source in force is kept with the set of a load frame, in a test and between tests. -/
theorem test_set_source_is_kept :
    let frame : Instr := .sensorFrame .slr0 (sensorFrameChars 0 0 0 0 53 53)
    (after frame testing).strain.setSource = .primary ∧ (after frame bench).strain.setSource = .crosshead ∧
      testing.strain.setSource = .crosshead := by decide +kernel

/-- 01, worked sequence: sequence 53 after 50, two frames missed. -/
theorem test_sensor_frame_missed :
    let s := { bench with links := { bench.links with slr0 :=
      { bench.links.slr0 with lastSeq := some 50, goodFrames := 10, badFrames := 1, errCount := 1 } } }
    let r := (after (.sensorFrame .slr0 (sensorFrameChars 0 0 0 0 53 53)) s).links.slr0
    (r.lock, r.goodFrames, r.badFrames, r.missedFrames, r.errCount) = (.locked, 11, 1, 2, 3) := by decide +kernel

/-- 01, worked sequence: a frame abandoned at a 20 µs gap in LOCKED. -/
theorem test_char_gap_is_a_bad_frame :
    let s := { bench with links := { bench.links with slr0 :=
      { bench.links.slr0 with asm := .collecting [0xB4], goodFrames := 11, badFrames := 1, missedFrames := 2, errCount := 3 } } }
    let r := (after (.sensorCharGapTimeout .slr0) s).links.slr0
    (r.lock, r.cb, r.badFrames, r.missedFrames, r.errCount) = (.locked, 1, 2, 2, 4) := by decide +kernel

/-- 01 R6: a silence takes the lock, and a primary that is READY becomes ABSENT (03 R40). -/
theorem test_silence_unlocks :
    let s := { bench with ext := { bench.ext with primary := { bench.ext.primary with state := .ready } } }
    let t := after (.silenceTimerExpiry .slr1) (lineBusy s)
    t.links.slr1.lock = .unlocked ∧ t.ext.primary.state = .absent ∧ noticeCodes t = [0x0121] := by decide +kernel

/-- 01, worked example: the sixteenth frame of a tare. -/
theorem test_tare_sixteenth_frame :
    let s := { bench with force := { bench.force with tareOp := some { count := 15, sum := 400008 - 25020 } } }
    (convertLoad 25020 s).force.tare = 25001 ∧ (convertLoad 25020 s).force.f = 19 := by decide +kernel

/-! ## Strain and extensometers -/

/-- 02, worked example: crosshead strain. -/
theorem test_crosshead_strain :
    let s := { bench with
      force := { bench.force with f := 6241813 }, strain := { bench.strain with p0 := 10000000 }
      motion := { bench.motion with encCount := 6172839 } }
    s.position = 12345678 ∧ s.crossheadStrain = 380543 := by decide +kernel

/-- 02, worked example: stitching onto the crosshead, and a backward order. -/
theorem test_hand_over_stitches :
    let s := { testing with strain := { testing.strain with active := 50012, epsC := 61480 } }
    let t := handOver giveFirings .crosshead s
    t.strain.stitch = -11468 ∧ t.strain.active = 50012 ∧ t.strain.source = .crosshead ∧ handOver giveFirings .secondary t = t := by
  decide +kernel

/-- 07 R132: a FLY removal's hand-over to CROSSHEAD ends the last phase at the moment of the hand-over, before
REMOVE_REQUESTED; the removal that it belongs to is abandoned (03 R56; Log 7). -/
theorem test_fly_hand_over_exit_at_once :
    let s := { testing with
      seq := { testing.seq with
        method := { testing.seq.method with phaseCount := 3 }
        phases := { testing.seq.phases with e2 := { testing.seq.phases.e2 with exit := .handoverDone } } }
      ext := { testing.ext with removal := { testing.ext.removal with policy := .fly } } }
    let t := startFly giveFirings s
    t.seq.state = .finishing ∧ t.seq.endReason = some .lastPhase ∧
      t.ext.removal.kind = some .none ∧
      t.router.raised.map (fun e => e.code) = [0x0302, 0x0330] := by decide +kernel

/-- 08 R154 with 07 R132, R139: a STRAIN monitor that the hand-over of a confirmed PAUSE removal fires finds the test
HELD: its exit is pending when REMOVAL leaves the set, and the next phase is entered from rest (05 R103). -/
theorem test_confirmed_removal_fires_in_held :
    let m : Monitor := { Monitor.init with enable := true, quantity := .strain, state := .armed, threshold := 19990 }
    let s := { testing with
      mon := { testing.mon with bank := { testing.mon.bank with e1 := m } }
      seq := { testing.seq with
        state := .held, held := { HeldSet.empty with removal := true }
        phases := { testing.seq.phases with e2 := { testing.seq.phases.e2 with exit := .monitor, arg := 1 } } }
      ext := { testing.ext with removal := { testing.ext.removal with
        mode := some .pause, requestTime := some 3, timer := .running 5 } } }
    let t := confirmRemoval giveFirings .hostConfirm s
    t.seq.state = .running ∧ t.seq.phase = 3 ∧ t.loop.prev = 0 ∧ t.mon.fired = [] := by decide +kernel

/-- 02 R36 with 08 R154: a STRAIN monitor that the strain zero fires is given on before phase 1 is entered, so that
FIRED(1), in phase 0, comes before PHASE_ENTERED(1), and the exit is taken once. -/
theorem test_strain_zero_fires_in_phase_0 :
    let m : Monitor := { Monitor.init with
      enable := true, quantity := .strain, falling := true, threshold := 0, state := .armed }
    let s := lineBusy { testing with
      mon := { testing.mon with bank := { testing.mon.bank with e1 := m } }
      seq := { testing.seq with
        phase := 0, method := { testing.seq.method with strainZero := true }
        phases := { testing.seq.phases with e0 := testing.seq.phases.e2, e1 := testing.seq.phases.e3 } } }
    let t := after .phaseTimerExpiry s
    t.router.notices.map (fun e => (e.code, e.phase)) = [(0x0801, 0), (0x0611, 1)] ∧ t.seq.phase = 1 ∧
      t.strain.active = 0 := by decide +kernel

/-- 07, the worked lock loss at 20,000,000: HELD(LOCK_LOSS) with 1 member, then BLIND_SPEED_ON with the ceiling formed. -/
theorem test_lock_loss_holds :
    let s := lineBusy { testing with store := { testing.store with cal := { testing.store.cal with blindSpeed := 8333 } } }
    let t := after (.silenceTimerExpiry .slr0) s
    t.router.notices.map (fun e => (e.code, e.value)) = [(0x0120, 0), (0x0624, 1), (0x0508, 8333)] ∧
      t.seq.state = .held ∧ t.motion.ceiling = 8333 := by decide +kernel

/-- 03, worked removal at 41,730,000: the arms confirm a PAUSE removal. -/
theorem test_arms_confirm_pause :
    let s := lineBusy { testing with
      seq := { testing.seq with
        state := .held, held := { HeldSet.empty with removal := true }, heldSince := some 41250000 }
      strain := { testing.strain with active := 149996, epsC := 162917 }
      ext := { testing.ext with
        primary := { testing.ext.primary with state := .removing, strain := 149996 }
        removeRequest := true
        removal := { testing.ext.removal with
          policy := .pause, mode := some .pause, requestTime := some 41250000, timer := .running 51250000 } }
      ins := { testing.ins with e5 := { raw := true, filtered := false, asserted := false, timer := some 41730000 } } }
    let t := after (.inputFilterExpiry 5) s
    t.strain.stitch = -12921 ∧ t.seq.state = .running ∧ t.ext.primary.state = .removed ∧
      t.ext.removal.kind = some .armsInput ∧ t.ext.removal.edges = 1 ∧ t.ext.removal.strainAt = some 149996 ∧
      t.ext.removeRequest = false ∧ noticeCodes t = [0x0302, 0x0630, 0x0331, 0x0A05] := by decide +kernel

/-- 03 R50: the timer of a PAUSE removal expires; the removal goes on waiting. -/
theorem test_removal_timer_pause :
    let s := { testing with ext := { testing.ext with
      removeRequest := true
      removal := { testing.ext.removal with
        mode := some .pause, requestTime := some 41250000, timer := .running 51250000 } } }
    let t := after .removalTimerExpiry (lineBusy s)
    t.ext.removal.timer = .expired ∧ t.ext.removeRequest = true ∧ noticeCodes t = [0x0332] := by decide +kernel

/-- 03 R53 with R49: the host confirms. -/
theorem test_ext_confirm :
    let s := { testing with ext := { testing.ext with removal := { testing.ext.removal with
      mode := some .fly, requestTime := some 41250000, timer := .running 51250000, strainAt := some 7 } } }
    let t := after (.extConfirm 1 []) s
    t.ext.removal.kind = some .hostConfirm ∧ t.ext.primary.state = .removed := by decide +kernel

/-- 03 R43: ZERO_EXT outside IDLE is refused; in IDLE an averaging begins. -/
theorem test_zero_ext :
    (after (.zeroExt 1 [2]) bench).ext.secondary.op = some { count := 0, sum := 0 } ∧
      (after (.zeroExt 1 [2]) testing).ext.secondary.op = none := by decide +kernel

/-- 01 R17: TARE begins an averaging. -/
theorem test_tare : (after (.tare 1 []) bench).force.tareOp = some { count := 0, sum := 0 } := by decide +kernel

/-! ## Motion -/

/-- 02 R25: 00 to 10 counts up; 00 to 11 is an encoder error. -/
theorem test_encoder :
    (after (.encoderTransition true false) bench).motion.encCount = 1 ∧
      (after (.encoderTransition true true) bench).motion.encErrors = 1 := by decide +kernel

/-- 05, worked example: one control period sends 15,762. -/
theorem test_control_period_strain_rate :
    let t := after .controlPeriod testing
    t.loop.acc = 40002500 ∧ t.loop.target = 20001 ∧ t.loop.integ = 322 ∧ t.motion.lastDemand = 15762 := by
  decide +kernel

/-- 04, worked sequence: expiry 21 of a jog reversal, withheld by the dwell. -/
theorem test_control_period_jog_reversal :
    let s := lineBusy { bench with motion := { bench.motion with
      state := .jog, driveEn := true, jog := some { positive := false, speed := 10000 }, keepalive := some 9, sign := some true,
      zeroRun := 1 } }
    let t := after .controlPeriod s
    t.motion.lastDemand = 0 ∧ t.motion.zeroRun = 2 ∧ t.motion.dwell = true ∧
      t.router.notices.map (fun e => e.value) = [-1000] := by decide +kernel

/-- 04 R78: the keepalive of a jog at rest expires. -/
theorem test_jog_keepalive :
    let s := { bench with motion := { bench.motion with
      state := .jog, driveEn := true, jog := some { positive := true, speed := 10 }, keepalive := some 9 } }
    let t := after .jogKeepaliveExpiry s
    t.motion.jog = none ∧ t.motion.state = .standby := by decide +kernel

/-- 04 R66: ENABLE from OFF. -/
theorem test_enable :
    let t := after (.enable 3 []) bench
    t.motion.state = .standby ∧ t.motion.driveEn = true ∧ t.host.replies = [{ kind := 0xA0, tag := 3, payload := [] }] := by
  decide +kernel

/-- 04 R67: DISABLE in TEST is refused with WRONG_STATE (code 4). -/
theorem test_disable_in_test :
    (after (.disable 3 []) testing).host.replies = [{ kind := 0xFE, tag := 3, payload := [0x21, 4] }] := by decide +kernel

/-- 04 R74, R73: an IMMEDIATE segment begins at once; its speed is clamped to vmax. -/
theorem test_move :
    let s := { bench with motion := { bench.motion with state := .standby, driveEn := true } }
    let t := after (.move 1 (i4 5000 ++ b4 600000 ++ [0])) s
    t.motion.state = .move ∧ t.motion.queue = [{ target := 5000, speed := 500000, trigger := 0, started := true }] := by
  decide +kernel

/-- 04 R77: a jog from STANDBY. -/
theorem test_jog :
    let s := { bench with motion := { bench.motion with state := .standby, driveEn := true } }
    let t := after (.jog 1 [1, 0, 0, 0x27, 0x10]) s
    t.motion.state = .jog ∧ t.motion.jog = some { positive := false, speed := 10000 } ∧
      t.motion.keepalive = some 250000 := by decide +kernel

/-- 04 R79, R80: STOP in a jog at speed. -/
theorem test_stop :
    let s := { bench with motion := { bench.motion with
      state := .jog, driveEn := true, jog := some { positive := true, speed := 10 }, lastDemand := 9000 } }
    let t := after (.stop 1 []) s
    t.motion.state = .stopping ∧ t.motion.dest = some .standby ∧ t.motion.jog = none := by decide +kernel

/-- 04 R82: an upper limit not above the lower is BAD_VALUE (code 3). -/
theorem test_set_travel :
    (after (.setTravel 1 ([1] ++ i4 5 ++ [1] ++ i4 5)) bench).host.replies =
        [{ kind := 0xFE, tag := 1, payload := [0x17, 3] }] ∧
      (after (.setTravel 1 ([1] ++ i4 (-5) ++ [0] ++ i4 0)) bench).motion.softLower = some (-5) := by decide +kernel

/-- 02 R27: ZERO_POS. -/
theorem test_zero_pos :
    (after (.zeroPos 1 []) { bench with motion := { bench.motion with encCount := 77 } }).motion.encCount = 0 := by
  decide +kernel

/-! ## Protection -/

/-- 06, worked sequence at 45 ms: the first retry. -/
theorem test_blanking_expiry_retries :
    let s := lineBusy { bench with
      motion := { bench.motion with
        state := .move, driveEn := true, queue := [{ target := 9, speed := 9, trigger := 0, started := true }] }
      prot := { bench.prot with blanking := some 45000 }
      time := { bench.time with crystal := 45000 } }
    let t := after .blankingTimerExpiry s
    t.motion.state = .retryWait ∧ t.motion.driveEn = false ∧ t.prot.episode = some 1 ∧ t.prot.offTime = some 295000 ∧
      t.router.notices.map (fun e => e.value) = [1] := by decide +kernel

/-- 06, worked sequence at 560 ms: the count stands at the limit, and the fault latches. -/
theorem test_blanking_expiry_latches :
    let s := { bench with
      motion := { bench.motion with state := .move, driveEn := true }
      prot := { bench.prot with blanking := some 560000, episode := some 2 } }
    let t := after .blankingTimerExpiry s
    t.motion.state = .fault ∧ t.prot.latched.driveFault = true ∧ t.prot.episode = none := by decide +kernel

/-- 06, worked sequence at 295 ms: the head is resumed from P. -/
theorem test_off_time_expiry :
    let s := { bench with
      motion := { bench.motion with
        state := .retryWait, queue := [{ target := 9, speed := 9, trigger := 0, started := true }], encCount := 50 }
      prot := { bench.prot with offTime := some 295000, episode := some 1 } }
    let t := after .offTimeExpiry s
    t.motion.state = .move ∧ t.motion.refX = 200000 ∧ t.motion.driveEn = true ∧ t.prot.episode = some 1 := by
  decide +kernel

/-- 06 R119: a millisecond with the grips closed. -/
theorem test_grip_tick :
    (after .gripSettleTick bench).prot.gripCount = 1 ∧ (after .gripSettleTick State.reset).prot.gripCount = 0 := by
  decide +kernel

/-- 06 R109: CLEAR_FAULT in FAULT with ESTOP closed; the acceptance reports DRIVE_FAULT (bit 1). -/
theorem test_clear_fault :
    let s := { bench with
      motion := { bench.motion with state := .fault }
      prot := { bench.prot with latched := { FaultSet.empty with driveFault := true } } }
    let t := after (.clearFault 1 []) s
    t.motion.state = .off ∧ t.prot.latched = FaultSet.empty ∧
      t.host.replies = [{ kind := 0xA5, tag := 1, payload := [2] }] := by decide +kernel

/-- 06 R116: ESTOP read open in a test latches and aborts it at once. -/
theorem test_estop_opens :
    let s := { testing with ins := { testing.ins with
      e0 := { raw := false, filtered := true, asserted := true, timer := some 41252000 } } }
    let t := after (.inputFilterExpiry 0) s
    t.motion.state = .fault ∧ t.prot.latched.estop = true ∧ t.seq.state = .aborted ∧ t.seq.abortCause = some .estop := by
  decide +kernel

/-- 08 R161: a raw change starts the filter timer. -/
theorem test_input_raw_change :
    ((after (.inputRawChange 3 true) bench).ins.get 3).timer = some 2000 := by decide +kernel

/-! ## Sequencer -/

/-- 07, worked test: ARM with trigger 3 waits. -/
theorem test_arm_waits :
    let s := lineBusy { bench with
      motion := { bench.motion with state := .standby, driveEn := true }
      seq := { bench.seq with method := { Method.default with phaseCount := 4, policy := .none } }
      store := { bench.store with cal := { bench.store.cal with triggerIn := 3 } } }
    let ph : Phase := { mode := .positionRate, rate := 5000, vmax := 20000, exit := .fractureOnly, arg := 0 }
    let t := after (.arm 1 [3]) { s with seq := { s.seq with phases := Eight.all ph } }
    t.seq.state = .armed ∧ t.seq.armedTrigger = some 3 ∧ t.strain.source = .crosshead ∧ noticeCodes t = [0x0601] := by
  decide +kernel

/-- 07, worked test at 0: the trigger starts the test, with I at the negative of the feedforward. -/
theorem test_trigger_starts_test :
    let ph : Phase := { mode := .positionRate, rate := 5000, vmax := 20000, exit := .fractureOnly, arg := 0 }
    let s := lineBusy { bench with
      motion := { bench.motion with state := .standby, driveEn := true }
      ext := { bench.ext with primary := { bench.ext.primary with state := .ready, zeroed := true } }
      seq := { bench.seq with
        state := .armed, armedTrigger := some 3, phases := Eight.all ph
        method := { Method.default with phaseCount := 4, policy := .none } } }
    let t := after (.trigger 1 [3]) s
    t.seq.state = .running ∧ t.motion.state = .test ∧ t.strain.source = .primary ∧ t.ext.primary.state = .active ∧
      t.loop.integ = -5000 ∧ t.motion.ceiling = 20000 ∧ (noticeCodes t).take 3 = [0x0902, 0x0602, 0x0610] := by
  decide +kernel

/-- 05, worked example: a phase entry from a demand of 16,020 at P = 14,736,500. -/
theorem test_phase_timer_enters_phase :
    let s := { testing with motion := { testing.motion with lastDemand := 16020, encCount := 7368250 } }
    let t := after .phaseTimerExpiry s
    t.seq.phase = 3 ∧ t.loop.acc = 29473000000 ∧ t.loop.integ = -23980 ∧ t.motion.ceiling = 60000 ∧
      t.loop.prev = 16020 := by decide +kernel

/-- 05, worked example: a hold at P = 15,000,000 after the word 15,762. -/
theorem test_hold :
    let s := { testing with motion := { testing.motion with lastDemand := 15762, encCount := 7500000 } }
    let t := after (.hold 1 []) s
    t.seq.state = .held ∧ t.seq.held.host = true ∧ t.loop.mode = some .holdPosition ∧ t.loop.target = 15000000 ∧
      t.loop.acc = 30000000000 ∧ t.loop.integ = 15762 ∧ t.loop.prev = 15762 := by decide +kernel

/-- 07, worked sequence at 20,400,000: a RESUME with LOCK_LOSS and the load link not LOCKED is refused (code 7). -/
theorem test_resume_refused :
    let s := { testing with
      seq := { testing.seq with state := .held, held := { HeldSet.empty with lockLoss := true } }
      links := { testing.links with slr0 := { testing.links.slr0 with lock := .unlocked } } }
    (after (.resume 1 []) s).host.replies = [{ kind := 0xFE, tag := 1, payload := [0x2B, 7] }] := by decide +kernel

/-- 07 R143, R141: END with the crosshead moving. -/
theorem test_end :
    let t := after (.endTest 1 []) testing
    t.seq.state = .finishing ∧ t.seq.endReason = some .endReq ∧ t.motion.state = .stopping := by decide +kernel

/-- 07 R141: with the crosshead at rest the stop of step 4 ends the test before FRACTURE of step 5. -/
theorem test_fracture_at_rest :
    let s := { testing with motion := { testing.motion with lastDemand := 0 } }
    let t := reportFracture 7 s
    t.seq.state = .complete ∧ t.router.raised.map (fun e => e.code) = [0x0903, 0x0650, 0x0640] := by decide +kernel

/-- 07 R145, R144: ABORT with the crosshead at rest ends at once. -/
theorem test_abort :
    let s := lineBusy { testing with motion := { testing.motion with lastDemand := 0 } }
    let t := after (.abort 1 []) s
    t.seq.state = .aborted ∧ t.motion.state = .standby ∧ noticeCodes t = [0x0903, 0x0661] := by decide +kernel

/-- 07 R147: CLEAR_TEST in ABORTED. -/
theorem test_clear_test :
    let s := { testing with seq := { testing.seq with state := .aborted } }
    let t := after (.clearTest 1 []) s
    t.seq.state = .idle ∧ t.result.record = none ∧ t.ext.primary.state = .unzeroed := by decide +kernel

/-- 07 R125, R126, R22, R91: a phase is stored; a phase count of 9 is BAD_VALUE. -/
theorem test_test_settings :
    let ph : Phase := { mode := .stressRate, rate := 20000, vmax := 50000, exit := .monitor, arg := 1 }
    ((after (.setPhase 1 (1 :: phaseBytes ph)) bench).seq.phases.get 1) = ph ∧
      (after (.setMethod 1 (methodBytes { Method.default with phaseCount := 9 })) bench).host.replies =
        [{ kind := 0xFE, tag := 1, payload := [0x11, 3] }] ∧
      (after (.setLoop 1 ([2] ++ b4 2621440 ++ b4 131072)) bench).loop.gStrain = { kp := 2621440, ki := 131072 } ∧
      (after (.setSpecimen 1 (b4 785398 ++ b4 60000 ++ b4 50000 ++ b4 50000 ++ b4 150000 ++ b4 250000))
        State.reset).strain.specimen.area = 0 := by decide +kernel

/-! ## Results: the spec's examples on the operations of a curve point -/

/-- 09, worked example: the modulus fit gives 200,000 MPa. -/
theorem test_modulus_fit :
    let s := { testing with result := { testing.result with
      n := 8, sx := 72000, sy := 1440000, sxy := 16320000000, sxx := 816000000 } }
    (closeFit s).result.e = some 200000 ∧ (closeFit s).result.fit = .done := by decide +kernel

/-- 09, worked example: proof stress. -/
theorem test_proof_stress :
    let s := { testing with result := { testing.result with
      fit := .done, proof := .isOpen, e := some 200000, prev := some ⟨0, 358000, 37500, .primary⟩ } }
    let t := proofStep ⟨0, 362000, 38400, .primary⟩ s
    t.result.proof = .found ∧ t.result.record.map (fun r => r.rp) = some (some ⟨360286, 38014⟩) := by decide +kernel

/-- 09, worked sequence: the yield point, and the end of its plateau. -/
theorem test_yield_point :
    let s := { testing with result := { testing.result with smax := some ⟨352000, 17800⟩ } }
    let a := yieldStep ⟨0, 351000, 18300, .primary⟩ s
    let b := yieldStep ⟨0, 348500, 18900, .primary⟩ a
    let c := yieldStep ⟨0, 340800, 45000, .primary⟩ b
    let d := yieldStep ⟨0, 352400, 160000, .primary⟩ c
    a.result.yield = .searching ∧ b.result.yield = .plateau ∧ b.result.minAll = some 348500 ∧
      d.result.yield = .decided ∧ d.result.record.map (fun r => r.reL) = some (some 340800) := by decide +kernel

/-! ## Monitors, routing, lines -/

/-- 08 R151: a monitor is set, ARMED. -/
theorem test_set_monitor :
    let t := after (.setMonitor 1 ([2, 1, 2, 0] ++ i4 150000 ++ b4 0 ++ [0, 0])) bench
    t.mon.bank.e2.state = .armed ∧ t.mon.bank.e2.quantity = .strain ∧ t.mon.bank.e2.threshold = 150000 := by
  decide +kernel

/-- 08 R157: a route entry with both actions. -/
theorem test_set_route :
    (after (.setRoute 1 [3, 1, 0x03, 0x40, 16, 0, 3, 0]) bench).router.routes.e3 =
      { enable := true, code := 0x0340, len := 16, silent := false, mark := true, hold := true, mask := 0 } := by
  decide +kernel

/-- 08, worked example: entry 0 silences FIRED(2), entry 6 of the same code too, and OUT2 takes a pulse. -/
theorem test_route_pulse :
    let s := { bench with
      outs := { bench.outs with e2 := { source := .pulse, invert := false, width := 100, pulse := none } }
      router := { bench.router with routes := { bench.router.routes with
        e0 := { enable := true, code := 0, len := 0, silent := true, mark := false, hold := false, mask := 0 }
        e5 := { enable := true, code := 0x0800, len := 8, silent := false, mark := true, hold := false, mask := 0x04 }
        e6 := { enable := true, code := 0x0802, len := 16, silent := true, mark := false, hold := false, mask := 0 } } } }
    let t := routeEvent ⟨0x0802, 0, 0, 7, 255, 0⟩ s
    t.router.notices = [] ∧ t.outs.e2.pulse = some 100000 ∧ t.log.ring.map (fun r => r.kind) = [.mark] := by
  decide +kernel

/-- 08 R164, R166: an output line's pulse ends. -/
theorem test_pulse_ends :
    let s := { bench with outs := { bench.outs with e2 := { source := .pulse, invert := true, width := 1, pulse := some 9 } } }
    s.outLevel 2 = false ∧ (after (.pulseTimerExpiry 2) s).outLevel 2 = true := by decide +kernel

/-- 08 R164: SET_OUTPUT. -/
theorem test_set_output :
    (after (.setOutput 1 [3, 2, 2, 0, 0, 0, 100]) bench).outs.e3.source = .status .removeRequest := by decide +kernel

/-- 08 R153: the whole-millisecond count fires a TEST_TIME_MS monitor. -/
theorem test_test_time_tick :
    let m : Monitor :=
      { enable := true, quantity := .testTimeMs, falling := false, threshold := 41250, hysteresis := 0, rearm := false,
        always := false, state := .armed, value := 0 }
    let s := { testing with
      mon := { testing.mon with bank := { testing.mon.bank with e7 := m } }, time := { testing.time with msSeen := 41249 } }
    let t := after .testTimeMsTick s
    t.mon.bank.e7.state = .fired ∧ t.mon.bank.e7.value = 41250 := by decide +kernel

/-! ## Log and time -/

/-- 10, worked example: GAP (10,001, count 3), then SAMPLE 10,004. -/
theorem test_log_interval_stores_gap :
    let s := { testing with log := { testing.log with seqNo := 10004, gap := 3, firstSkipped := 10001 } }
    let t := after .logIntervalExpiry s
    t.log.ring.map (fun r => (r.kind, r.seqNo, r.force)) = [(.gap, 10001, 3), (.sample, 10004, 0)] ∧
      t.log.seqNo = 10005 ∧ t.log.gap = 0 := by decide +kernel

/-- 10 R187: a sample carries the source in force at the expiry. 02 R30: so do the log flags when a set is handed on. -/
theorem test_log_source :
    let frame : Instr := .sensorFrame .slr0 (sensorFrameChars 0 0 0 0 53 53)
    (after .logIntervalExpiry testing).log.ring.map (fun r => r.source) = [.primary] ∧
      (after frame testing).logSource = .primary ∧ (after frame testing).strain.setSource = .primary := by decide +kernel

/-- 10 R188: LOG_START with trigger 0, and LOG_STOP in a test. -/
theorem test_log_start_stop :
    (after (.logStart 1 [0]) bench).log.state = .running ∧ (after (.logStop 1 []) testing).log.state = .running := by
  decide +kernel

/-- 11 R203: the count of a GAP is unsigned. -/
theorem test_gap_count_bytes :
    let r : LogRecord := ⟨.gap, false, false, false, .crosshead, 255, 0, 0, 4294967295, 0, 0, 0⟩
    (logRecordBytes r).count 0xFF = 5 := by decide +kernel

/-- 10 R193: READ_LOG takes records from the ring head; STREAM takes one at once on an idle line. -/
theorem test_read_log_and_stream :
    let r : LogRecord := ⟨.sample, false, false, false, .crosshead, 255, 0, 0, 0, 0, 0, 0⟩
    let s := { bench with log := { bench.log with ring := [r, r, r] } }
    (after (.readLog 1 [2]) s).log.ring = [r] ∧ (after (.stream 1 [1]) s).log.stream = true := by decide +kernel

/-- 10 R190: the interval is clamped to 1 to 2,000. -/
theorem test_set_log :
    (after (.setLog 1 [0, 0]) bench).log.interval = 1 ∧ (after (.setLog 1 [0xFF, 0xFF]) bench).log.interval = 2000 := by
  decide +kernel

/-- 10 R196: a microsecond over the second's end with the greatest trim. -/
theorem test_mill_time_step :
    let s := { bench with time := { bench.time with sec := 4294967295, ns := 999999500, frac := 4294967295 } }
    let t := after .millTimeStep s
    (t.time.sec, t.time.ns, t.time.frac) = (0, 500, 4294967295) := by decide +kernel

/-- 10 R197, R196: SET_TIME, ADJUST_TIME by −1 ns across a second, TRIM_TIME clamped. -/
theorem test_times :
    let s := after (.setTime 1 (b4 7 ++ b4 0)) bench
    let t := after (.adjustTime 1 (List.replicate 8 0xFF)) s
    (s.time.sec, s.time.ns) = (7, 0) ∧ (t.time.sec, t.time.ns) = (6, 999999999) ∧
      (after (.trimTime 1 (i4 200000)) bench).time.step = 4294967296000 + 429496730 := by decide +kernel

/-- 10 R197: READ_TIME's layout. -/
theorem test_read_time :
    (after (.readTime 9 []) testing).host.replies = [{ kind := 0xBB, tag := 9, payload :=
      [0, 0, 0, 0, 0, 0, 0, 0, 0x02, 0x75, 0x6C, 0xD0, 0, 0, 0, 0] }] := by decide +kernel

/-! ## Host link and store -/

/-- 11 R199, R204: an IDENTIFY frame character by character, and in INIT. -/
theorem test_identify_in_init :
    (after (.identify 1 []) State.reset).host.replies.map (fun r => (r.kind, r.payload.take 2, r.payload.drop 3)) =
      [(0x81, [0x48, 0x20], List.replicate 12 0)] ∧
    frameBytes 0x01 0x01 [] = [0xD5, 0x00, 0x01, 0x01] ++ b2 (crc16 [0, 1, 1]) := by decide +kernel

/-- 11 R205: STATUS of an unknown group is BAD_VALUE. -/
theorem test_status :
    (after (.status 8 [6, 0]) bench).host.replies = [{ kind := 0xFE, tag := 8, payload := [0x02, 3] }] := by decide +kernel

/-- 11 R206, 01 R9: STATS with a clear and a threshold for SLR1. -/
theorem test_stats :
    let s := { bench with links := { bench.links with slr1 := { bench.links.slr1 with badFrames := 5 } } }
    let t := after (.stats 8 [1, 0, 0, 0, 1, 0, 9, 0, 0, 0]) s
    t.links.slr1.badFrames = 0 ∧ t.links.slr1.errThreshold = 9 ∧ t.host.goodFrames = 0 := by decide +kernel

/-- 11 R208: GET_CAL reports CAL_VALID (bit 0) behind the record of 106 bytes. -/
theorem test_get_cal :
    (after (.getCal 8 []) bench).host.replies.map (fun r => (r.kind, r.payload.length, r.payload.drop 106)) =
      [(0x88, 107, [1])] := by decide +kernel

/-- 11 R208: SET_CAL takes the record and sets CAL_UNSAVED. -/
theorem test_set_cal :
    let c := { bench.store.cal with fcap := 100000000, flim := 90000000 }
    let t := after (.setCal 8 (calBytes c)) bench
    t.store.calUnsaved = true ∧ t.store.cal.fcap = 100000000 := by decide +kernel

/-- 11 R209: SAVE_CAL with no usable range 0 is BAD_VALUE. -/
theorem test_save_cal :
    (after (.saveCal 7 []) bench).host.replies = [{ kind := 0xFE, tag := 7, payload := [0x0A, 3] }] := by decide +kernel

/-- 11 R209: a save that reads back another block fails: SAVE_FAILED alone, and the copy differs from the block. -/
theorem test_save_end_fails :
    let s := lineBusy { bench with store := { bench.store with save := some [1, 2], calUnsaved := false } }
    let t := after (.saveEnd [1, 3]) s
    t.store.save = none ∧ t.store.calUnsaved = true ∧ noticeCodes t = [0x0B04] := by decide +kernel

/-- 11 R207: a torn block fails its load; the defaults are the working copy. -/
theorem test_cal_load_end :
    let s := { State.reset with store := { State.reset.store with nv := .torn 0 } }
    let t := after .calLoadEnd s
    t.store.ready = true ∧ t.store.calValid = false ∧ t.store.calUnsaved = true ∧ t.store.cal.vmax = 8333 := by
  decide +kernel

/-- 11 R200: a 0xD5 with 16 replies pending is an overrun. -/
theorem test_sof_overrun :
    let s := { bench with host := { bench.host with replies := List.replicate 16 ⟨1, 2, []⟩ } }
    (after .hostSofOverrun s).host.overruns = 1 ∧ (after .hostSofOverrun bench).host.rx = .header [] := by decide +kernel

/-- 11, worked sequence: a request whose CRC does not match is counted and not answered. -/
theorem test_crc_error :
    let t := after (.hostFrameCrcError (cleanChars [0xD5, 2, 2, 8, 0, 0, 0, 0])) bench
    t.host.crcErrors = 1 ∧ t.host.replies = [] ∧ t.host.rx = .hunt := by decide +kernel

/-- 11 R200: a LEN above 232, and a gap within a frame. -/
theorem test_framing_errors :
    (after (.hostFramingError (cleanChars [0xD5, 233])) bench).host.framingErrors = 1 ∧
      (after .hostCharGapTimeout { bench with host := { bench.host with rx := .header [0] } }).host.framingErrors = 1 := by
  decide +kernel

/-- 11 R201: an unknown kind is refused with UNKNOWN_KIND (code 1). -/
theorem test_unknown_request :
    (after (.hostUnknownRequest 0x50 4 []) bench).host.replies = [{ kind := 0xFE, tag := 4, payload := [0x50, 1] }] := by
  decide +kernel

/-- 11 R202: at the end of a reply the next notice leaves its queue. -/
theorem test_transmit_frame_end :
    let e : EventRecord := ⟨0x0601, 0, 0, 0, 255, 0⟩
    let s := { bench with
      host := { bench.host with tx := .reply, replies := [⟨1, 2, []⟩] }, router := { bench.router with notices := [e] } }
    let t := after .transmitFrameEnd s
    t.host.tx = .notice e ∧ t.host.replies = [] ∧ t.router.notices = [] ∧ t.host.framesSent = 1 := by decide +kernel

/-- 09 R184: READ_RESULT in IDLE is refused (code 4). -/
theorem test_read_result :
    (after (.readResult 1 []) bench).host.replies = [{ kind := 0xFE, tag := 1, payload := [0x30, 4] }] := by decide +kernel

/-- 11, worked sequence: RESTART is accepted, later characters are discarded, and it takes effect at the end of its
acceptance; a power-on from there is INIT. -/
theorem test_resets :
    let s := after (.restart 9 []) bench
    let t := after .restartTakesEffect (after .hostSofOverrun s)
    s.host.replies = [{ kind := 0xBF, tag := 9, payload := [] }] ∧ t.host.rx = .hunt ∧ t.host.framesSent = 1 ∧
      t.store.ready = true ∧ (after .powerOn t).store.ready = false ∧
      (after .resetTakesEffect (after (.reset 9 []) bench)).store.ready = false := by decide +kernel

/-! ## Witnesses: for every statement with hypotheses, states and operands that meet them, clause by clause -/

def inMotion (m : MotionState) (s : State) : State := { s with motion := { s.motion with state := m } }

def inSeq (q : SeqState) (s : State) : State := { s with seq := { s.seq with state := q } }

def estopOpen (s : State) : State := { s with ins := { s.ins with e0 := { s.ins.e0 with asserted := false } } }

def latched (s : State) : State := { s with prot := { s.prot with latched := { FaultSet.empty with estop := true } } }

def withQueue (q : List Segment) (s : State) : State := { s with motion := { s.motion with queue := q } }

def withHeld (h : HeldSet) (s : State) : State := { s with seq := { s.seq with held := h } }

def unlocked0 (s : State) : State :=
  { s with links := { s.links with slr0 := { s.links.slr0 with lock := .unlocked } } }

/-- The acceptance of a reset is the one frame left, and is being sent. -/
def lastFrame (k : ResetKind) (s : State) : State :=
  { s with host := { s.host with tx := .reply, replies := [⟨0xBF, 9, []⟩], resetPending := some k } }

def segment : Segment := { target := 5000, speed := 700, trigger := 0, started := false }

theorem witness_O1 : ({ bench with pending := [.powerOn] } : State).pending = .powerOn :: [] := rfl

theorem witness_O4_O5_O6 :
    bench.store.save = none ∧ ({ bench with store := { bench.store with save := some [1] } } : State).store.save = some [1] ∧
    ((lastFrame .reset bench).host.resetPending = some .reset ∧ (lastFrame .reset bench).host.tx = .reply ∧
      (lastFrame .reset bench).host.replies.length = 1) ∧
    ((lastFrame .restart testing).host.resetPending = some .restart ∧ (lastFrame .restart testing).host.tx = .reply ∧
      (lastFrame .restart testing).host.replies.length = 1) := by decide +kernel

/-- A RESTART in each case of O5: the primary's link LOCKED with its mark set, LOCKED without it, and not LOCKED; SLR0
LOCKED and not, CAL_VALID false. -/
theorem witness_O5_cases :
    let s := lastFrame .restart testing
    let fresh := { s with ext := { s.ext with primary := { s.ext.primary with zeroed := false, op := some ⟨15, 3⟩ } } }
    let apart := { s with links := { s.links with
      slr0 := { s.links.slr0 with lock := .acquiring }, slr1 := { s.links.slr1 with lock := .unlocked } } }
    let invalid := { s with store := { s.store with calValid := false } }
    (s.resetDue .restart ∧ s.links.slr1.lock = .locked ∧ s.ext.primary.zeroed = true ∧ s.links.slr0.lock = .locked ∧
      s.store.calValid = true) ∧
    (fresh.resetDue .restart ∧ fresh.links.slr1.lock = .locked ∧ fresh.ext.primary.zeroed = false ∧
      fresh.ext.primary.op ≠ none) ∧
    (apart.resetDue .restart ∧ apart.links.slr0.lock ≠ .locked ∧ apart.links.slr1.lock ≠ .locked) ∧
    (invalid.resetDue .restart ∧ invalid.store.calValid = false) := by decide +kernel

/-- A test at a curve point in its last phase, with a point before this one. -/
def onCurve : State :=
  { testing with
    seq := { testing.seq with phase := 3 }
    result := { testing.result with fracArmed := true, prev := some ⟨0, 358000, 37500, .primary⟩ } }

/-- The premises of O7 where no monitor is armed, no result ends the phase and no removal can start; and the force's
limit at its edge. -/
theorem witness_O7 :
    onCurve.store.ready = true ∧ onCurve.links.slr0.asm = .hunting ∧ frameSound 1 7 0xAA 0x49 53 0xD0 = true ∧
      onCurve.links.slr0.lastSeq ≠ some 53 ∧ onCurve.Quiet ∧ onCurve.NoHoldRoute ∧ onCurve.inTest = true ∧
      onCurve.NoNewOverload (onCurve.frameForce 1 7 0xAA 0x49) ∧ onCurve.store.cal.flim = 110000000 ∧
      onCurve.NoNewOverload 109999999 ∧ ¬ onCurve.NoNewOverload 110000000 ∧
      (∀ k, (onCurve.mon.bank.get k).state ≠ .armed) ∧
      (onCurve.seq.phases.get onCurve.seq.phase).exit = .fractureOnly ∧
      onCurve.ext.removal.policy = .none ∧ onCurve.seq.method.fitLower < onCurve.seq.method.fitUpper ∧
      1 ≤ onCurve.strain.specimen.eMin ∧ onCurve.result.record = some (ResultRecord.opened .primary) ∧
      (ResultRecord.opened .primary).closed = false := by decide +kernel

/-- O7 with the crosshead as the source and a monitor that the frame fires: 02 R28 gives
round(-62,668 × 10,000 / 60,000) = -10,445 su, and the exit is not a monitor's. -/
theorem witness_O7_crosshead :
    let m : Monitor := { Monitor.init with enable := true, quantity := .strain, state := .armed, threshold := -20000 }
    let s := { onCurve with
      strain := { onCurve.strain with source := .crosshead }, mon := { onCurve.mon with bank := onCurve.mon.bank.set 5 m } }
    let t := after (.sensorFrame .slr0 (sensorFrameChars 1 7 0xAA 0x49 53 0xD0)) s
    s.Quiet ∧ s.inTest = true ∧ s.NoNewOverload (s.frameForce 1 7 0xAA 0x49) ∧ m.evaluatedAt (-10445) = t.mon.bank.get 5 ∧
      (t.mon.bank.get 5).state = .fired ∧ t.strain.active = -10445 ∧
      t.result.prev.map (fun p => p.source) = some .crosshead ∧ s.strain.source ≠ .primary := by decide +kernel

/-- A test whose next point finds the proof stress, in a phase that the proof decision ends. -/
def proving (k : Fin 8) (q : SeqState) : State :=
  { onCurve with
    strain := { onCurve.strain with active := 100000 }
    seq := { onCurve.seq with
      state := q, phase := k
      phases := onCurve.seq.phases.set k { onCurve.seq.phases.get k with exit := .proofDecided } }
    result := { onCurve.result with fit := .done, proof := .isOpen, e := some 200000 } }

/-- O7 where the decision is the phase's exit: into the next phase, the end in the last one, pending in HELD. -/
theorem witness_O7_exits :
    let frame : Instr := .sensorFrame .slr0 (sensorFrameChars 1 7 0xAA 0x49 53 0xD0)
    let next := proving 2 .running
    let last := proving 3 .running
    let held := proving 3 .held
    next.Quiet ∧ next.inTest = true ∧ ¬ next.seq.method.phaseCount ≤ next.seq.phase.val + 1 ∧
      (next.seq.phases.get 3).exit = .fractureOnly ∧ (after frame next).seq.phase = 3 ∧
      last.Quiet ∧ last.seq.method.phaseCount ≤ last.seq.phase.val + 1 ∧ last.motion.lastDemand ≠ 0 ∧
      (after frame last).seq.endReason = some .lastPhase ∧ held.Quiet ∧ (after frame held).seq.pendingExit = true := by
  decide +kernel

/-- O7 where the decision meets AFTER_PROOF: the strain is 100,000 su on either side of a FLY hand-over. -/
theorem witness_O7_removal :
    let frame : Instr := .sensorFrame .slr0 (sensorFrameChars 1 7 0xAA 0x49 53 0xD0)
    let about := fun p : Policy =>
      let s := { proving 3 .running with seq := { onCurve.seq with phase := 3 } }
      { s with ext := { s.ext with removal := { s.ext.removal with policy := p, cond := some .afterProof } } }
    (about .fly).Quiet ∧ (about .fly).ext.removal.kind = none ∧ (about .fly).ext.primary.state = .active ∧
      (about .fly).strain.source = .primary ∧ (about .fly).armsOpen = false ∧ (about .fly).Unwatched .strain ∧
      (about .fly).StrainFits ∧ ((about .fly).seq.phases.get 3).exit = .fractureOnly ∧
      (after frame (about .fly)).strain.source = .crosshead ∧ (after frame (about .fly)).strain.active = 100000 ∧
      (after frame (about .pause)).seq.held.removal = true := by decide +kernel

/-- Both sides of O7: a frame of force 0 on a peak is the fracture, a frame on no peak is a point. -/
theorem witness_O7_sides :
    let peak := { onCurve with force := { onCurve.force with hasPoint := true, fmax := 9000000 } }
    (after (.sensorFrame .slr0 (sensorFrameChars 1 0 0 0 53 (1 ^^^ 53))) peak).seq.endReason = some .fracture ∧
      (after (.sensorFrame .slr0 (sensorFrameChars 1 7 0xAA 0x49 53 0xD0)) onCurve).seq.endReason = none := by
  decide +kernel

theorem witness_O8 :
    (bench.links.get .slr0).asm = .hunting ∧ frameSound 1 7 0xAA 0x49 53 0xD0 = true ∧
      (bench.links.get .slr0).lastSeq ≠ some 53 ∧ (State.reset.links.get .slr0).lock = .unlocked := by decide +kernel

theorem witness_O9 :
    ((bench.links.get .slr0).asm = .hunting ∧ frameSound 1 7 0xAA 0x49 53 0 = false) ∧
    ((bench.links.get .slr0).lock ≠ .unlocked ∧ (bench.links.get .slr0).lastSeq = some 52) ∧
    ([1, 2, 3, 4, 5] : List Byte).length ≤ 5 ∧
    (({ bench with links := { bench.links with slr1 := { bench.links.slr1 with asm := .collecting [0xB4] } } } :
      State).links.get .slr1).asm = .collecting [0xB4] := by decide +kernel

theorem witness_O10 :
    ((bench.links.get .slr0).silence ≠ none ∧ (State.reset.links.get .slr0).silence = none) ∧
    (Link.slr1 = extLink .primary ∧ (testing.links.get .slr1).silence ≠ none ∧
      (testing.links.get .slr1).lock = .locked ∧ testing.store.ready = true ∧ testing.inTest = true ∧
      (testing.ext.get .primary).state = .active ∧ testing.strain.source = extSource .primary ∧ testing.Quiet ∧
      testing.NoHoldRoute ∧ testing.Unwatched .strain ∧ testing.StrainFits ∧
      (testing.seq.phases.get testing.seq.phase).exit ≠ .handoverDone) := by decide +kernel

/-- The loss of SLR0's lock: between tests, in RUNNING and HELD, and under the policy ABORT. -/
theorem witness_O10_load_lock :
    let aborting : State := { testing with seq := { testing.seq with method := { testing.seq.method with lockAbort := true } } }
    (bench.links.slr0.silence ≠ none ∧ bench.links.slr0.lock = .locked ∧ bench.store.ready = true ∧ bench.Quiet ∧
      bench.NoHoldRoute ∧ bench.inTest = false) ∧
    (testing.links.slr0.silence ≠ none ∧ testing.links.slr0.lock = .locked ∧ testing.store.ready = true ∧
      testing.Quiet ∧ testing.NoHoldRoute ∧ testing.motion.state = .test ∧ testing.seq.method.lockAbort = false ∧
      testing.seq.state = .running ∧ (inSeq .held testing).seq.state = .held) ∧
    (aborting.motion.lastDemand ≠ 0 ∧ aborting.inTest = true ∧ aborting.seq.method.lockAbort = true) := by
  decide +kernel

theorem witness_O11 :
    bench.store.ready = true ∧ bench.links.slr0.asm = .hunting ∧ frameSound 1 7 0xAA 0x49 53 0xD0 = true ∧
      bench.links.slr0.lastSeq ≠ some 53 ∧ bench.force.tareOp = none ∧ (bench.store.cal.range 1).gain ≠ 0 ∧
      (bench.store.cal.range 0).gain = 0 ∧
      ({ bench with force := { bench.force with tareOp := some { count := 15, sum := 7 } } } : State).force.tareOp =
        some { count := 15, sum := 7 } := by decide +kernel

/-- The first part of O12 on a frame that makes the condition set. -/
theorem witness_O12_overload :
    let s := { bench with store := { bench.store with cal := { bench.store.cal with flim := 1000 } } }
    s.store.ready = true ∧ s.links.slr0.asm = .hunting ∧ frameSound 1 7 0xAA 0x49 53 0xD0 = true ∧
      s.links.slr0.lastSeq ≠ some 53 ∧ s.prot.overload = false ∧
      (after (.sensorFrame .slr0 (sensorFrameChars 1 7 0xAA 0x49 53 0xD0)) s).prot.overload = true := by decide +kernel

/-- A monitor of scope ALWAYS on the force, falling and re-arming, at the two edges of its hysteresis (08 R154). -/
theorem witness_O12_monitor :
    let m : Monitor := { Monitor.init with
      enable := true, falling := true, threshold := 500, hysteresis := 20, rearm := true, always := true, state := .fired }
    (m.evaluatedAt 519).state = .fired ∧ (m.evaluatedAt 520).state = .armed ∧
      ({ m with state := .armed } : Monitor).evaluatedAt 500 = { m with value := 500 } ∧
      ({ m with state := .armed } : Monitor).evaluatedAt 501 = { m with state := .armed } := by decide +kernel

theorem witness_O12 :
    bench.links.slr0.asm = .hunting ∧ bench.Quiet ∧ bench.NoHoldRoute ∧ bench.betweenTests = true ∧
      bench.NoNewOverload (bench.frameForce 1 7 0xAA 0x49) ∧ bench.store.cal.flim = 110000000 ∧
      bench.frameForce 1 7 0xAA 0x49 = 6266813 ∧ bench.motion.state ≠ .test := by decide +kernel

theorem witness_O13 :
    bench.store.ready = true ∧ bench.Quiet ∧ bench.NoHoldRoute ∧ bench.inTest = false ∧
      (bench.links.get (extLink .secondary)).asm = .hunting ∧ (bench.links.get (extLink .secondary)).lock = .locked ∧
      (bench.links.get (extLink .secondary)).lastSeq ≠ some 53 ∧ frameSound 4 0x7F 0xFF 0xFF 53 0x4E = true ∧
      (bench.ext.get .secondary).op = none ∧
      ({ bench with ext := { bench.ext with secondary :=
        { bench.ext.secondary with op := some { count := 15, sum := 7 } } } } : State).ext.secondary.op =
          some { count := 15, sum := 7 } := by decide +kernel

/-- A test with a primary of full travel 100000 counts and a slip threshold of 1 su. -/
def guarded : State :=
  { testing with
    store := { testing.store with cal := { testing.store.cal with travelPrim := 100000, travelSec := 100000 } }
    ext := { testing.ext with slipM := 19990, slipX := -1 }
    seq := { testing.seq with method := { testing.seq.method with slip := 1 } } }

/-- The parts of O13 within a test: a reading of 1 count inside the guard that slips, and readings at the guard level,
100000 - 5000 counts, of an ACTIVE primary, of one that waits under PAUSE, and of an ACTIVE secondary. -/
theorem witness_O13_in_test :
    (guarded.store.ready = true ∧ guarded.Quiet ∧ guarded.inTest = true ∧ guarded.ext.primary.op = none ∧
      guarded.links.slr1.asm = .hunting ∧ guarded.links.slr1.lock = .locked ∧
      guarded.links.slr1.lastSeq = some (53 - 1) ∧ frameSound 0 0 0 1 53 0x34 = true ∧
      ((0 : Byte) ++ (0 : Byte) ++ (1 : Byte)).toInt = 1 ∧ guarded.Unwatched .strain ∧
      guarded.Unwatched .primaryStrain ∧ guarded.ext.primary.state = .active ∧ guarded.seq.method.slip ≠ 0 ∧
      guarded.ext.slipX < guarded.strain.epsC) ∧
    (((0x01 : Byte) ++ (0x73 : Byte) ++ (0x18 : Byte)).toInt = 100000 - 5000 ∧ frameSound 0 1 0x73 0x18 53 0x5F = true ∧
      guarded.strain.source = .primary ∧ guarded.NoHoldRoute ∧ guarded.StrainFits ∧ guarded.armsOpen = false ∧
      (guarded.seq.phases.get guarded.seq.phase).exit ≠ .handoverDone) ∧
    (let s := { guarded with ext := { guarded.ext with
       primary := { guarded.ext.primary with state := .removing }
       removal := { guarded.ext.removal with mode := some .pause } } }
     s.Quiet ∧ s.ext.primary.state = .removing ∧ s.ext.removal.mode = some .pause ∧ s.ext.removal.strainAt = none) ∧
    (let s := { guarded with
       strain := { guarded.strain with source := .secondary }
       ext := { guarded.ext with secondary := { guarded.ext.secondary with state := .active } } }
     s.Quiet ∧ s.ext.secondary.state = .active ∧ s.strain.source = extSource .secondary ∧
       s.Unwatched .secondaryStrain ∧ s.links.slr2.lock = .locked) := by decide +kernel

/-- A removal in flight of a mode, with its timer running to 5. -/
def removing (m : RemovalMode) : State :=
  { testing with ext := { testing.ext with removal := { testing.ext.removal with
      mode := some m, requestTime := some 3, timer := .running 5 } } }

/-- A test at the millisecond 41,250, which monitor 2 watches, with a removal condition on it and the arms closed. -/
def aboutToRemove (p : Policy) : State :=
  let m : Monitor := { Monitor.init with enable := true, quantity := .testTimeMs, state := .armed, threshold := 41250 }
  { testing with
    mon := { testing.mon with bank := { testing.mon.bank with e2 := m } }
    time := { testing.time with msSeen := 41249 }
    ext := { testing.ext with removal := { testing.ext.removal with policy := p, cond := some (.monitor 2) } } }

theorem witness_O14_start :
    let s := aboutToRemove .fly
    s.Quiet ∧ s.NoHoldRoute ∧ s.seq.state = .running ∧ s.time.testRunning = true ∧
      (s.time.msSeen + 1) * 1000 ≤ s.time.testTime ∧ s.time.testTime ≤ 4294967295 ∧
      (s.mon.bank.get 2).enable = true ∧ (s.mon.bank.get 2).quantity = .testTimeMs ∧
      (s.mon.bank.get 2).state = .armed ∧ (s.mon.bank.get 2).falling = false ∧
      (s.mon.bank.get 2).threshold ≤ s.time.msSeen + 1 ∧ (∀ i, i ≠ 2 → (s.mon.bank.get i).enable = false) ∧
      (s.seq.phases.get s.seq.phase).exit = .time ∧ s.ext.removal.cond = some (.monitor 2) ∧
      s.ext.removal.kind = none ∧ s.ext.primary.state = .active ∧ s.strain.source = .primary ∧ s.armsOpen = false ∧
      s.StrainFits ∧ s.ext.removal.policy = .fly ∧ (aboutToRemove .pause).ext.removal.policy = .pause := by
  decide +kernel

theorem witness_O14 :
    ((removing .pause).ext.removal.timer = .running 5 ∧ (removing .pause).ext.removal.requestTime ≠ none ∧
      (removing .pause).ext.removal.kind = none ∧ (removing .pause).Quiet ∧ (removing .pause).NoHoldRoute ∧
      (removing .pause).ext.removal.mode = some .pause) ∧
    ((removing .fly).ext.removal.timer = .running 5 ∧ (removing .fly).Quiet ∧ (removing .fly).NoHoldRoute ∧
      (removing .fly).ext.removal.mode = some .fly) ∧
    bench.ext.removal.timer = .stopped := by decide +kernel

theorem witness_O15 :
    ((removing .pause).Receptive ∧ (removing .pause).ext.removal.mode ≠ none ∧
      (removing .pause).ext.removal.requestTime ≠ none ∧ (removing .pause).ext.removal.kind = none) ∧
    (bench.Receptive ∧ bench.ext.removal.mode = none) := by decide +kernel

/-- A test held for a PAUSE removal that has not handed on, by itself and with another reason. -/
def waitingForArms (host : Bool) : State :=
  let s := removing .pause
  { s with
    ext := { s.ext with primary := { s.ext.primary with state := .removing } }
    seq := { s.seq with
      state := .held, held := { HeldSet.empty with removal := true, host := host }, heldSince := some 41000000 } }

/-- The hand-over of O15, and the test that goes on at its active strain of 19,990 su, or stays HELD. -/
theorem witness_O15_pause :
    let s := waitingForArms false
    let t := after (.extConfirm 1 []) s
    (s.Receptive ∧ s.inTest = true ∧ s.NoHoldRoute ∧ s.ext.removal.strainAt = none ∧ s.strain.source = .primary ∧
      s.Unwatched .strain ∧ s.StrainFits ∧ (s.seq.phases.get s.seq.phase).exit ≠ .handoverDone ∧
      s.seq.pendingExit = false ∧ { s.seq.held with removal := false } = HeldSet.empty) ∧
    (t.seq.state = .running ∧ t.strain.source = .crosshead ∧ t.loop.target = 19990) ∧
    (waitingForArms true).Receptive ∧ { (waitingForArms true).seq.held with removal := false } ≠ HeldSet.empty ∧
    (after (.extConfirm 1 []) (waitingForArms true)).seq.state = .held ∧
    (removing .fly).Receptive ∧ (removing .fly).ext.removal.mode = some .fly ∧ (removing .fly).NoHoldRoute := by
  decide +kernel

theorem witness_O16 : bench.Receptive ∧ bench.seq.state = .idle := by decide +kernel

theorem witness_O18 :
    bench.motion.state = .off ∧
    (let s := { bench with motion := { bench.motion with state := .stopping, driveEn := true, lastDemand := 1000 } }
     s.motion.state = .stopping ∧ s.seq.state ≠ .finishing ∧ s.inTest = false ∧ s.NoHoldRoute ∧ s.Quiet ∧
       s.motion.lastDemand.natAbs ≤ max 1 (roundDiv s.store.cal.stopDecel 2000).toNat) ∧
    (let s := inSeq .finishing (inMotion .stopping { testing with motion := { testing.motion with lastDemand := -1000 } })
     s.motion.state = .stopping ∧ s.seq.state = .finishing ∧ s.inTest = false ∧ s.NoHoldRoute ∧ s.Quiet ∧
       s.motion.lastDemand.natAbs ≤ max 1 (roundDiv s.store.cal.stopDecel 2000).toNat ∧ s.log.state = .running ∧
       s.result.record = some (ResultRecord.opened .primary)) := by decide +kernel

/-- A word of a stop before its last. -/
theorem witness_O18_ramp :
    let s := { bench with motion := { bench.motion with state := .stopping, driveEn := true, lastDemand := 15500, sign := some true } }
    s.inTest = false ∧ s.NoHoldRoute ∧ s.Quiet ∧ s.motion.driveEn = true ∧ s.estopClosed = true ∧ s.limitPos = false ∧
      s.limitNeg = false ∧ s.sentFor (movedToward s.motion.lastDemand 0 s.stopStep) = 14500 := by decide +kernel

/-- A jog under way, at its speed. -/
def jogging : State :=
  { bench with motion := { bench.motion with
      state := .jog, driveEn := true, jog := some { positive := true, speed := 10000 }, keepalive := some 9
      lastDemand := 9500, sign := some true } }

/-- A move near the end of its one segment, and of one with another behind it. -/
def moving (rest : List Segment) : State :=
  withQueue ({ segment with started := true } :: rest)
    { bench with motion := { bench.motion with
        state := .move, driveEn := true, refX := 9990000, lastDemand := 4500, sign := some true } }

theorem witness_O19 :
    (jogging.RunsFree ∧ jogging.motion.state = .jog ∧
      jogging.motion.jog = some { positive := true, speed := 10000 } ∧ jogging.inTest = false) ∧
    ((moving []).RunsFree ∧ (moving []).motion.state = .move ∧ (moving []).inTest = false ∧
      (moving []).motion.queue = { segment with started := true } :: [] ∧
      (4472 * 4472 * 1000 ≤ (moving []).store.cal.amax * (2000 * segment.target - (moving []).motion.refX).natAbs ∧
        (moving []).store.cal.amax * (2000 * segment.target - (moving []).motion.refX).natAbs < 4473 * 4473 * 1000)) ∧
    ((moving [segment]).RunsFree ∧ segment.trigger = 0) ∧
    (testing.RunsFree ∧ testing.motion.state = .test ∧ testing.inTest = true ∧
      testing.loop.mode = some .strainRate ∧ testing.Unwatched .position) := by decide +kernel

/-- The clauses of O20 speak of words that are sent: a withheld one at rest, and a first one of a jog. -/
theorem witness_O20 :
    bench.motion.driveEn = false ∧ bench.motion.state = .off ∧
      (after .controlPeriod { jogging with motion := { jogging.motion with
        lastDemand := 0, sign := some false, zeroRun := 40 } }).motion.lastDemand ≠ 0 ∧
      jogging.upperMet = false ∧ jogging.lowerMet = false ∧
      ({ jogging with motion := { jogging.motion with softUpper := some (-1) } } : State).upperMet = true := by
  decide +kernel

/-- A soft limit met by a jog and by a test, with room for the first step of the ramp. -/
theorem witness_O20_soft_limit :
    let m := { jogging with motion := { jogging.motion with softUpper := some (-1), lastDemand := 5000, sign := some true } }
    let t := { testing with motion := { testing.motion with softUpper := some (-1) } }
    (m.upperMet = true ∧ m.motion.state = .jog ∧ m.motion.driveEn = true ∧ m.estopClosed = true ∧ m.limitPos = false ∧
      m.limitNeg = false ∧ m.Quiet ∧ m.NoHoldRoute ∧ m.inTest = false ∧ m.links.slr0.lock = .locked ∧
      m.store.calValid = true ∧
      ({ m with motion := { m.motion with ceiling := m.store.cal.vmax } } : State).sentFor
        (movedToward m.motion.lastDemand 0 m.stopStep) ≠ 0) ∧
    (t.upperMet = true ∧ t.motion.state = .test ∧ t.inTest = true ∧ t.motion.driveEn = true ∧ t.estopClosed = true ∧
      t.limitPos = false ∧ t.limitNeg = false ∧ t.Quiet ∧ t.NoHoldRoute ∧
      ({ t with motion := { t.motion with ceiling := t.store.cal.vmax } } : State).sentFor
        (movedToward t.motion.lastDemand 0 t.stopStep) ≠ 0) := by decide +kernel

/-- A jog under way toward an asserted switch, on either side. -/
theorem witness_O20_switch :
    (let s := { jogging with ins := { jogging.ins with e1 := { jogging.ins.e1 with asserted := true } } }
     s.limitPos = true ∧ s.Quiet ∧ s.NoHoldRoute ∧ s.inTest = false ∧ s.motion.driveEn = true ∧ s.estopClosed = true ∧
       0 < s.sentFor (movedToward s.motion.lastDemand 10000 s.accelStep)) ∧
    (let s := { jogging with
       ins := { jogging.ins with e2 := { jogging.ins.e2 with asserted := true } }
       motion := { jogging.motion with jog := some { positive := false, speed := 10000 }, lastDemand := 0, zeroRun := 40 } }
     s.limitNeg = true ∧ s.sentFor (movedToward s.motion.lastDemand (-10000) s.accelStep) < 0) := by decide +kernel

theorem witness_O21 :
    (jogging.Quiet ∧ jogging.NoHoldRoute ∧ jogging.motion.keepalive ≠ none ∧ jogging.motion.state = .jog ∧
      jogging.seq.state ≠ .finishing) ∧
    (inMotion .retryWait jogging).motion.keepalive ≠ none ∧ (inMotion .retryWait jogging).motion.state = .retryWait ∧
    bench.motion.keepalive = none := by decide +kernel

theorem witness_O22 :
    bench.Receptive ∧ bench.estopClosed = true ∧ bench.prot.latched = FaultSet.empty ∧ bench.motion.state = .off ∧
    (estopOpen bench).estopClosed = false ∧ (estopOpen bench).Receptive ∧ (latched bench).prot.latched ≠ FaultSet.empty ∧
    (latched bench).Receptive ∧ (inMotion .standby bench).Receptive ∧ (inMotion .fault bench).Receptive ∧
    testing.Receptive ∧ testing.motion.state = .test ∧ (inMotion .stopping bench).Receptive ∧
    (inMotion .retryWait bench).Receptive ∧
    (let s := { jogging with motion := { jogging.motion with lastDemand := 1 } }
     s.Receptive ∧ s.motion.state = .jog ∧ s.motion.lastDemand ≠ 0) := by decide +kernel

theorem witness_O22_at_rest :
    let s := { jogging with motion := { jogging.motion with lastDemand := 0 } }
    s.Receptive ∧ s.motion.state = .jog ∧ s.motion.lastDemand = 0 ∧ s.seq.state ≠ .finishing := by decide +kernel

theorem witness_O23 :
    let p : List Byte := i4 5000 ++ b4 700 ++ [15]
    let bad : List Byte := i4 5000 ++ b4 700 ++ [16]
    let near := { inMotion .standby bench with motion := { bench.motion with state := .standby, softUpper := some 4999 } }
    p.length = 9 ∧ fieldS p 0 4 = 5000 ∧ fieldU p 4 4 = 700 ∧ fieldU p 8 1 = 15 ∧ 15 < fieldU bad 8 1 ∧
      (inMotion .standby bench).Receptive ∧ (inMotion .standby bench).betweenTests = true ∧
      testing.betweenTests = false ∧ (latched bench).betweenTests = true ∧ bench.motion.state ≠ .standby ∧
      bench.motion.suspendsMove = false ∧ near.Receptive ∧ near.withinTravel 5000 = false ∧ near.withinTravel 4999 = true ∧
      (withQueue (List.replicate 8 segment) (inMotion .standby bench)).motion.queue.length = 8 ∧
      (withQueue (List.replicate 7 segment) (inMotion .standby bench)).motion.queue.length < 8 ∧
      fieldU (i4 5000 ++ b4 700 ++ [0]) 8 1 = 0 := by decide +kernel

theorem witness_O24 :
    let p : List Byte := 0 :: b4 10000
    let limited := { inMotion .standby bench with motion := { bench.motion with state := .standby, softUpper := some 0 } }
    p.length = 5 ∧ fieldU p 0 1 = 0 ∧ fieldU p 1 4 = 10000 ∧ 1 < fieldU (2 :: b4 10000) 0 1 ∧
      (inMotion .standby bench).Receptive ∧ (inMotion .standby bench).jogWithin true = true ∧
      (inMotion .standby bench).limitPos = false ∧ limited.jogWithin true = false ∧
      (withQueue [segment] (inMotion .standby bench)).motion.queue ≠ [] ∧ bench.motion.suspendsJog = false ∧
      jogging.Receptive ∧ jogging.betweenTests = true ∧ jogging.prot.latched = FaultSet.empty ∧
      jogging.motion.jog = some { positive := true, speed := min 10000 jogging.store.cal.vmax } ∧
      ((inMotion .retryWait jogging).Receptive ∧ (inMotion .retryWait jogging).motion.suspendsJog = true ∧
        (inMotion .retryWait jogging).motion.startedHead = none) ∧
      ({ positive := true, speed := 10000 } : Jog) ≠ { positive := true, speed := min 9000 jogging.store.cal.vmax } ∧
      min 9000 jogging.store.cal.vmax ≤ jogging.store.cal.vmax := by decide +kernel

theorem witness_O25 :
    let p : List Byte := [1] ++ i4 (-5) ++ [0] ++ i4 0
    bench.Receptive ∧ p.length = 10 ∧ fieldU p 0 1 ≤ 1 ∧ fieldU p 5 1 ≤ 1 := by decide +kernel

theorem witness_O26 :
    bench.Receptive ∧ bench.seq.state = .idle ∧ bench.motion.state = .off ∧ bench.motion.queue = [] ∧
      bench.motion.encA = false ∧ bench.motion.encB = false := by decide +kernel

/-- A move with its blanking timer running. -/
def blanked : State :=
  let s := withQueue [{ segment with started := true }] (inMotion .move bench)
  { s with prot := { s.prot with blanking := some 45000 } }

/-- A move that waits in RETRY_WAIT. -/
def waitingRetry : State :=
  let s := withQueue [{ segment with started := true }] (inMotion .retryWait bench)
  { s with prot := { s.prot with episode := some 1, offTime := some 295000 } }

theorem witness_O27 :
    (blanked.Quiet ∧ blanked.NoHoldRoute ∧ blanked.prot.blanking ≠ none ∧ blanked.motion.state = .move ∧
      blanked.store.cal.retryEnable = true ∧ blanked.retryCount < blanked.store.cal.retryLimit) ∧
    (inMotion .stopping blanked).prot.blanking ≠ none ∧ bench.prot.blanking = none ∧ bench.prot.offTime = none ∧
    (waitingRetry.Quiet ∧ waitingRetry.NoHoldRoute ∧ waitingRetry.prot.offTime ≠ none ∧
      waitingRetry.motion.state = .retryWait ∧ waitingRetry.motion.startedHead ≠ none) ∧
    (withQueue [] waitingRetry).motion.startedHead = none ∧
    (bench.motion.state ≠ .retryWait ∧ bench.router.notices = [] ∧ bench.log.stream = false ∧ bench.host.replies = []) := by
  decide +kernel

theorem witness_O29 :
    bench.Receptive ∧ bench.prot.latched = FaultSet.empty ∧ (latched bench).Receptive ∧
    (latched bench).prot.latched ≠ FaultSet.empty ∧ (latched bench).estopClosed = true ∧
    (latched bench).motion.state = .off ∧ (estopOpen (latched bench)).estopClosed = false ∧
    (inMotion .stopping (latched bench)).Receptive ∧ (inMotion .fault (latched bench)).Receptive ∧
    (let s := { bench with prot := { bench.prot with latched := { FaultSet.empty with overload := true }, overload := true } }
     s.Receptive ∧ s.prot.latched.overload = true ∧ s.prot.overload = true ∧ s.motion.state = .off) := by decide +kernel

theorem witness_O30 :
    State.reset.store.ready = false ∧
    (bench.store.ready = true ∧ true ≠ (bench.ins.get 3).raw ∧ true ≠ (bench.ins.get 3).filtered ∧
      bench.store.cal.filterMs.get 3 ≠ 0) ∧
    (let s := { bench with ins := bench.ins.set 3 { raw := true, filtered := false, asserted := false, timer := some 9 } }
     false ≠ (s.ins.get 3).raw ∧ false = (s.ins.get 3).filtered ∧ (s.ins.get 3).timer ≠ none) ∧
    (let s := { bench with store := { bench.store with cal := { bench.store.cal with filterMs := Eight.all 0 } } }
     s.store.ready = true ∧ s.store.cal.filterMs.get 3 = 0) ∧
    (bench.ins.get 3).timer = none ∧
    (let s := { bench with ins := { bench.ins with e0 :=
        { raw := false, filtered := true, asserted := true, timer := some 9 } } }
     (s.ins.get 0).timer ≠ none ∧ (s.ins.get 0).asserted = true ∧
       ((s.ins.get 0).raw != s.store.cal.invert.get 0) = false) ∧
    (let switched : Input := { raw := true, filtered := false, asserted := false, timer := some 9 }
     let s := { jogging with ins := { jogging.ins with e1 := switched, e2 := switched } }
     (s.ins.get 1).timer ≠ none ∧ (s.ins.get 1).asserted = false ∧ s.Quiet ∧ s.NoHoldRoute ∧ s.limitNeg = false ∧
       ((s.ins.get 1).raw != s.store.cal.invert.get 1) = true ∧ 0 < s.motion.lastDemand ∧
       (s.ins.get 2).asserted = false ∧ s.limitPos = false ∧ ((s.ins.get 2).raw != s.store.cal.invert.get 2) = true ∧
       ¬ s.motion.lastDemand < 0) := by decide +kernel

/-- The other consumers: the grips of a test and between tests, the arms with and without a removal, the break detector, and
the trigger input with an armed test, a waiting log and a waiting head. -/
theorem witness_O30_consumers :
    let rises : Input := { raw := true, filtered := false, asserted := false, timer := some 9 }
    let falls : Input := { raw := false, filtered := true, asserted := true, timer := some 9 }
    let all := fun (i : Input) (s : State) => { s with ins := { s.ins with e4 := i, e5 := i, e6 := i, e7 := i } }
    let removing := fun (mode : RemovalMode) (timer : RemovalTimer) => { testing with ext := { testing.ext with
      primary := { testing.ext.primary with state := .removing }
      removal := { testing.ext.removal with mode := some mode, requestTime := some 5, timer := timer } } }
    let breaks := { testing with
      seq := { testing.seq with method := { testing.seq.method with useBreak := true } }
      result := { testing.result with
        fracArmed := true, prev := some { force := 1, stress := 2, strain := 3, source := .primary } } }
    let armed := inSeq .armed { bench with seq := { bench.seq with armedTrigger := some bench.store.cal.triggerIn } }
    let waiting := { bench with
      log := { bench.log with state := .waiting bench.store.cal.triggerIn }
      motion := { bench.motion with
        state := .standby
        queue := [{ target := 5, speed := 9, trigger := bench.store.cal.triggerIn, started := false }] } }
    (∀ k : Fin 8, 4 ≤ k.val → ((all rises bench).ins.get k).timer ≠ none ∧ ((all rises bench).ins.get k).asserted = false ∧
      (((all rises bench).ins.get k).raw != (all rises bench).store.cal.invert.get k) = true) ∧
    (((all falls testing).ins.get 4).timer ≠ none ∧ ((all falls testing).ins.get 4).asserted = true ∧
      (((all falls testing).ins.get 4).raw != (all falls testing).store.cal.invert.get 4) = false) ∧
    (testing.Quiet ∧ testing.NoHoldRoute ∧ testing.seq.state = .running ∧ (inSeq .held testing).seq.state = .held ∧
      bench.inTest = false) ∧
    (bench.ext.removal.inFlight = false ∧ (removing .pause (.running 9)).ext.removal.inFlight = true ∧
      (removing .fly .expired).ext.removal.inFlight = true ∧ (removing .fly (.running 9)).ext.primary.state ≠ .lost) ∧
    (breaks.seq.method.useBreak = true ∧ breaks.result.fracArmed = true ∧ breaks.inTest = true ∧
      breaks.motion.state = .test ∧ breaks.motion.lastDemand ≠ 0 ∧ bench.seq.method.useBreak = false) ∧
    (armed.seq.state = .armed ∧ armed.seq.armedTrigger = some armed.store.cal.triggerIn) ∧
    (waiting.Quiet ∧ waiting.NoHoldRoute ∧ waiting.seq.state ≠ .armed ∧ waiting.motion.state = .standby) := by
  decide +kernel

/-- The drive-fault input: it asserts with DRIVE_EN high and with it low, and deasserts with the blanking timer running. -/
theorem witness_O30_drive_fault :
    let drive := fun (i : Input) (s : State) => { s with ins := { s.ins with e3 := i } }
    let rises := drive { raw := true, filtered := false, asserted := false, timer := some 9 }
    let falls := drive { raw := false, filtered := true, asserted := true, timer := some 9 }
    let blanking := falls { testing with prot := { testing.prot with blanking := some 5000 } }
    (∀ s ∈ [rises testing, rises bench, blanking], (s.ins.get 3).timer ≠ none ∧ s.Quiet ∧ s.NoHoldRoute ∧
      (s.ins.get 3).asserted ≠ ((s.ins.get 3).raw != s.store.cal.invert.get 3)) ∧
    (rises testing).motion.driveEn = true ∧ (rises bench).motion.driveEn = false ∧
    ((blanking.ins.get 3).raw != blanking.store.cal.invert.get 3) = false := by decide +kernel

/-- A test ready to start. -/
def startable : State :=
  let ph : Phase := { mode := .positionRate, rate := 5000, vmax := 20000, exit := .fractureOnly, arg := 0 }
  { bench with
    motion := { bench.motion with state := .standby, driveEn := true }
    seq := { bench.seq with method := { Method.default with phaseCount := 8 }, phases := Eight.all ph } }

theorem witness_O31_O32 :
    startable.Receptive ∧ startable.NoHoldRoute ∧ startable.seq.state = .idle ∧ startable.store.save = none ∧
      startable.store.calValid = true ∧ startable.links.slr0.lock = .locked ∧
      startable.prot.latched = FaultSet.empty ∧ startable.motion.state = .standby ∧ startable.motion.queue = [] ∧
      startable.force.tareOp = none ∧ startable.ext.primary.op = none ∧ startable.ext.secondary.op = none ∧
      startable.gripsSettled = true ∧ startable.methodValid = true ∧ startable.seq.phases.e0.exit = .fractureOnly := by
  decide +kernel

/-- Test starts in the cases of O32: on the primary, on the secondary, with a monitor of scope ALWAYS on the crosshead
strain that fires at the start, with a route that marks STARTED, and with a demand last sent beyond the ceiling. -/
theorem witness_O32_cases :
    let ready := fun e : Ext => { e with state := .ready, zeroed := true, strain := 7 }
    let primary := { startable with ext := { startable.ext with
      primary := ready startable.ext.primary, secondary := ready startable.ext.secondary } }
    let secondary := { startable with ext := { startable.ext with secondary := ready startable.ext.secondary } }
    let watch : Monitor := { enable := true, quantity := .crossheadStrain, falling := true, threshold := 0
                             hysteresis := 0, rearm := false, always := true, state := .armed, value := 5 }
    let watched := { startable with mon := { startable.mon with bank := startable.mon.bank.set 3 watch } }
    let mark : Route := { enable := true, code := 0x0602, len := 16, silent := true, mark := true, hold := false, mask := 0 }
    let marked := { startable with router := { startable.router with routes := startable.router.routes.set 7 mark } }
    let moving := { startable with motion := { startable.motion with lastDemand := 90000 } }
    let log := (after (.arm 3 [0]) marked).log
    (∀ s ∈ [primary, secondary, watched, marked, moving], s.Receptive ∧ s.NoHoldRoute ∧ s.gripsSettled = true ∧
      s.methodValid = true) ∧
    primary.sourceAtStart = .primary ∧ secondary.sourceAtStart = .secondary ∧ startable.sourceAtStart = .crosshead ∧
    (watch.evaluatedAt watched.epsAtStart).state = .fired ∧ marked.Marked 0x0602 ∧ ¬ marked.Marked 0x0902 ∧
    log.ring.map (fun r => r.force) = [0x0602] := by decide +kernel

/-- 02 R31 and 05 R100, by hand: with a compliance of 1,000 a force of 6,000,000 stretches the frame by 60,000, over an
Lc of 60,000, so that the crosshead strain is -10,000; the ceiling is the phase's vmax, and I the demand sent, 0, less the
feedforward of 5,000. -/
theorem test_arm_zero_and_rebase :
    let s := { startable with force := { startable.force with f := 6000000 } }
    let t := after (.arm 3 [0]) s
    t.strain.epsC = -10000 ∧ t.strain.active = -10000 ∧ t.ext.slipX = -10000 ∧ t.motion.ceiling = 20000 ∧
      t.loop.integ = -5000 ∧ t.loop.acc = 2000 * s.position := by decide +kernel

theorem witness_O33 :
    bench.Receptive ∧ 15 < (16 : Byte).toNat ∧ (15 : Byte).toNat ≤ 15 ∧ bench.NoHeadFor 15 ∧
      bench.seq.state ≠ .armed ∧ bench.log.state = .stopped ∧
    (let s := { bench with log := { bench.log with state := .waiting 15 } }
     s.Receptive ∧ s.log.state = .waiting 15 ∧ (15 : Byte).toNat = 15) ∧
    (let s := withQueue [segment] (inMotion .standby bench)
     s.Receptive ∧ s.motion.queue = segment :: [] ∧ s.NoHoldRoute ∧ s.motion.state = .standby ∧
       segment.started = false) ∧
    (let s := { bench with log := { bench.log with state := .waiting 14 } }
     s.Receptive ∧ (15 : Byte) ≠ 0 ∧ (15 : Byte).toNat ≠ 14) := by decide +kernel

/-- An armed test that a trigger fires: one whose conditions hold, and one whose motion is not in STANDBY. -/
theorem witness_O33_armed :
    let s := { inSeq .armed startable with seq := { startable.seq with state := .armed, armedTrigger := some 3 } }
    s.Receptive ∧ s.seq.state = .armed ∧ s.seq.armedTrigger = some (3 : Byte).toNat ∧ s.log.state = .stopped ∧
      s.NoHeadFor (3 : Byte).toNat ∧ s.store.save = none ∧ s.store.calValid = true ∧ s.links.slr0.lock = .locked ∧
      s.prot.latched = FaultSet.empty ∧ s.motion.state = .standby ∧ s.motion.queue = [] ∧ s.force.tareOp = none ∧
      s.ext.primary.op = none ∧ s.ext.secondary.op = none ∧ s.gripsSettled = true ∧ s.methodValid = true ∧
      s.NoHoldRoute ∧ s.seq.phases.e0.exit = .fractureOnly ∧
      (inMotion .off s).Receptive ∧ (inMotion .off s).motion.state ≠ .standby := by decide +kernel

/-- A head segment that waits in STANDBY for another number than the trigger's, alone and beside an armed test. -/
theorem witness_O33_other_head :
    let s := withQueue [{ segment with trigger := 4 }] (inMotion .standby bench)
    s.Receptive ∧ s.motion.state = .standby ∧ s.motion.waitingHead = some { segment with trigger := 4 } ∧
      s.NoHeadFor (3 : Byte).toNat ∧ s.log.state = .stopped ∧ s.seq.state ≠ .armed ∧
      (inSeq .armed s).Receptive ∧ (inSeq .armed s).NoHeadFor (3 : Byte).toNat := by decide +kernel

theorem witness_O34 :
    bench.Receptive ∧ bench.seq.state ≠ .running ∧ bench.seq.state ≠ .held ∧ testing.Receptive ∧
      testing.seq.state = .running ∧ testing.NoHoldRoute ∧ (inSeq .held testing).Receptive ∧
      (inSeq .held testing).NoHoldRoute := by decide +kernel

theorem witness_O35 :
    bench.Receptive ∧ bench.inTest = false ∧
    (let s := withHeld { HeldSet.empty with grip := true } (inSeq .held { testing with ins := bench.ins.set 4 Input.init })
     s.Receptive ∧ s.inTest = true ∧ s.seq.held.grip = true ∧ s.gripsClosed = false) ∧
    (let s := unlocked0 (withHeld { HeldSet.empty with lockLoss := true } (inSeq .held testing))
     s.Receptive ∧ s.inTest = true ∧ s.seq.held.grip = false ∧ s.seq.held.lockLoss = true ∧
       s.links.slr0.lock ≠ .locked) ∧
    (let s := withHeld { HeldSet.empty with removal := true } (inSeq .held testing)
     s.Receptive ∧ s.inTest = true ∧ s.seq.held.removal = true ∧ s.seq.held.lockLoss = false) ∧
    (testing.Receptive ∧ testing.seq.held = HeldSet.empty) ∧
    (let s := withHeld { HeldSet.empty with host := true } (inSeq .held testing)
     s.Receptive ∧ s.seq.state = .held ∧ s.NoHoldRoute ∧ s.seq.held.removal = false ∧ s.seq.pendingExit = false) := by
  decide +kernel

/-- A resume with a pending exit: into the next phase, and past the last. -/
theorem witness_O35_pending :
    let s := { testing with seq := { testing.seq with
      state := .held, held := { HeldSet.empty with host := true }, pendingExit := true } }
    let last := { s with seq := { s.seq with method := { s.seq.method with phaseCount := 3 } } }
    (s.Receptive ∧ s.seq.state = .held ∧ s.NoHoldRoute ∧ s.seq.held.grip = false ∧ s.seq.held.lockLoss = false ∧
      s.seq.held.removal = false ∧ s.seq.pendingExit = true ∧ (3 : Fin 8).val = s.seq.phase.val + 1 ∧
      (3 : Fin 8).val < s.seq.method.phaseCount ∧ (s.seq.phases.get 3).exit = .fractureOnly ∧ s.seq.phase ≠ 0) ∧
    (last.Receptive ∧ last.seq.method.phaseCount ≤ last.seq.phase.val + 1 ∧ last.motion.state = .test ∧
      last.motion.lastDemand ≠ 0) := by decide +kernel

theorem witness_O36 :
    bench.Receptive ∧ bench.testing = false ∧ (inSeq .finishing bench).Receptive ∧
    (testing.Receptive ∧ testing.inTest = true ∧ testing.motion.state = .test ∧ testing.motion.lastDemand ≠ 0) ∧
    (inSeq .armed bench).Receptive ∧
    (let s := { testing with motion := { testing.motion with lastDemand := 0 } }
     s.Receptive ∧ s.inTest = true ∧ s.motion.state = .test ∧ s.motion.lastDemand = 0) ∧
    (inMotion .stopping (inSeq .finishing testing)).Receptive ∧
    (inMotion .fault (inSeq .finishing testing)).Receptive := by decide +kernel

theorem witness_O37 : (inSeq .complete bench).Receptive ∧ bench.Receptive ∧ testing.Receptive := by decide +kernel

theorem witness_O38 :
    (testing.Quiet ∧ testing.NoHoldRoute ∧ testing.seq.phaseStart ≠ none ∧
      (testing.seq.phases.get testing.seq.phase).exit = .time ∧ (3 : Fin 8).val = testing.seq.phase.val + 1 ∧
      (3 : Fin 8).val < testing.seq.method.phaseCount ∧ (testing.seq.phases.get 3).exit = .fractureOnly ∧
      testing.seq.phase ≠ 0) ∧
    (inSeq .held testing).seq.state = .held ∧ bench.inTest = false ∧
    (let s := { testing with seq := { testing.seq with method := { testing.seq.method with phaseCount := 3 } } }
     s.Quiet ∧ s.NoHoldRoute ∧ s.seq.method.phaseCount ≤ s.seq.phase.val + 1 ∧ s.motion.state = .test ∧
       s.motion.lastDemand ≠ 0) ∧
    (let s := { testing with seq := { testing.seq with phase := 3 } }
     s.inTest = true ∧ s.seq.phaseStart ≠ none ∧ (s.seq.phases.get s.seq.phase).exit ≠ .time) := by decide +kernel

/-- The exit of phase 0 with the strain zero. -/
theorem witness_O38_strain_zero :
    let s := { testing with seq := { testing.seq with
      phase := 0
      method := { testing.seq.method with strainZero := true }
      phases := { testing.seq.phases with e0 := testing.seq.phases.e2, e1 := testing.seq.phases.e3 } } }
    s.Quiet ∧ s.NoHoldRoute ∧ s.seq.state = .running ∧ s.seq.phaseStart ≠ none ∧ s.seq.phase = 0 ∧
      s.seq.method.strainZero = true ∧ s.seq.phases.e0.exit = .time ∧ 1 < s.seq.method.phaseCount ∧
      s.seq.phases.e1.exit = .fractureOnly ∧ s.Unwatched .strain ∧ s.Unwatched .crossheadStrain ∧
      s.result.record = some (ResultRecord.opened .primary) := by decide +kernel

/-- The default method with one phase and the fields that its defaults leave outside their lists filled in. -/
def oneMethod : Method := { Method.default with phaseCount := 1 }

theorem witness_O39 :
    let ph : Phase := { mode := .stressRate, rate := 20000, vmax := 50000, exit := .monitor, arg := 1 }
    let sp : List Byte := b4 4000000000 ++ b4 1000 ++ b4 2000000 ++ b4 1000 ++ b4 1 ++ b4 1000000
    let m := methodBytes oneMethod
    bench.Receptive ∧ bench.betweenTests = true ∧ testing.Receptive ∧ testing.betweenTests = false ∧
      sp.length = 24 ∧ fieldU sp 0 4 = 4000000000 ∧ fieldU sp 20 4 = 1000000 ∧ m.length = 52 ∧
      fieldU m 1 1 ≤ 1 ∧ fieldU m 2 1 = 0 ∧ fieldU m 4 2 = oneMethod.timeout ∧ fieldU m 15 4 < fieldU m 19 4 ∧
      after (.setMethod 1 m) bench = replied 0x11 1 (.ok m) { bench with seq := { bench.seq with method := oneMethod } } ∧
      9 = fieldU (methodBytes { oneMethod with phaseCount := 9 }) 0 1 ∧
      (7 :: phaseBytes ph).length = 15 ∧ fieldU (7 :: phaseBytes ph) 0 1 = (7 : Fin 8).val ∧
      fieldU (7 :: phaseBytes ph) 1 1 = 1 ∧ fieldU (7 :: phaseBytes ph) 10 1 = 0 ∧
      fieldU (7 :: phaseBytes ph) 6 4 = 50000 ∧ fieldU (7 :: phaseBytes ph) 11 4 = 1 ∧
      fieldU (7 :: phaseBytes { ph with arg := 8 }) 11 4 = 8 ∧ 6 < fieldU ((7 :: phaseBytes ph).set 10 7) 10 1 ∧
      7 < fieldU [8] 0 1 ∧ (8 :: phaseBytes ph).length = 15 ∧ 7 < fieldU (8 :: phaseBytes ph) 0 1 ∧
      2 < fieldU [3] 0 1 ∧ fieldU (2 :: b4 1 ++ b4 2) 0 1 ≤ 2 := by decide +kernel

theorem witness_O40 :
    let m : List Byte := [7, 1, 8, 1] ++ i4 (-5) ++ b4 3 ++ [1, 1]
    let r : List Byte := [7, 1, 0x03, 0x40, 16, 0, 3, 0]
    let o : List Byte := [7, 2, 7, 7, 1, 0x03, 0xE8]
    bench.Receptive ∧ testing.Receptive ∧ 7 < fieldU [8] 0 1 ∧ m.length = 14 ∧ fieldU m 0 1 = (7 : Fin 8).val ∧
      fieldU m 1 1 ≤ 1 ∧ fieldU m 2 1 = 8 ∧ fieldU m 3 1 ≤ 1 ∧ fieldU m 12 1 ≤ 1 ∧ fieldU m 13 1 ≤ 1 ∧
      r.length = 8 ∧ fieldU r 0 1 = (7 : Fin 8).val ∧ fieldU r 1 1 ≤ 1 ∧ fieldU r 5 1 ≤ 1 ∧ o.length = 7 ∧
      fieldU o 0 1 = (7 : Fin 8).val ∧ fieldU o 1 1 = 2 ∧ fieldU o 2 1 = 7 ∧ fieldU o 3 1 = 7 ∧ fieldU o 4 1 = 1 ∧
      fieldU o 5 2 = 1000 ∧ outputOf o =
        some { source := .status (.monitorFired 7), invert := true, width := 1000, pulse := none } ∧
      3 < fieldU [7, 4, 0, 0, 0, 0, 1] 1 1 ∧ fieldU [7, 0, 0, 0, 0, 0, 0] 5 2 = 0 ∧
      1000 < fieldU [7, 0, 0, 0, 0, 0x03, 0xE9] 5 2 := by decide +kernel

theorem witness_O41 :
    (lineBusy bench).Receptive ∧ (∀ k, ¬ (lineBusy bench).Hit k 0x0A1F) ∧ (lineBusy bench).host.tx ≠ .idle ∧
      (15 : Byte).toNat ≤ 15 ∧ (lineBusy bench).motion.state ≠ .standby ∧ (lineBusy bench).seq.state ≠ .armed ∧
      (lineBusy bench).log.state = .stopped := by decide +kernel

/-- Two entries match TRIGGER(15): entry 2 by the leading 12 bits of its code, with MARK, HOLD and a pulse, and entry 7,
SILENT, by a compared length of 0; entry 3 differs in the last bit. -/
def routedBy (s : State) : State :=
  let low : Route := { enable := true, code := 0x0A10, len := 12, silent := false, mark := true, hold := true, mask := 0x04 }
  let miss : Route := { low with code := 0x0A1E, len := 16, silent := true }
  let high : Route := { enable := true, code := 0, len := 0, silent := true, mark := false, hold := false, mask := 0 }
  lineBusy { s with router := { s.router with routes := { s.router.routes with e2 := low, e3 := miss, e7 := high } } }

/-- A running test with a line of source PULSE, under the entries. -/
def routedTest : State :=
  let pulsing : Output := { source := .pulse, invert := false, width := 50, pulse := none }
  routedBy { testing with outs := { testing.outs with e2 := pulsing } }

theorem witness_O41_routed :
    routedTest.Receptive ∧ routedTest.host.tx ≠ .idle ∧ routedTest.HeldBy 0x0A1F ∧ routedTest.log.gap = 0 ∧
      routedTest.seq.state = .running ∧ routedTest.seq.held = HeldSet.empty ∧ routedTest.motion.state ≠ .standby ∧
      routedTest.log.state = .running := by decide +kernel

theorem witness_O41_matches :
    routedTest.Hit 2 0x0A1F ∧ ¬ routedTest.Hit 3 0x0A1F ∧ routedTest.Hit 7 0x0A1F ∧ routedTest.Silenced 0x0A1F ∧
      routedTest.Marked 0x0A1F ∧ routedTest.Pulses 0x0A1F 2 := by decide +kernel

/-- The MARK of that event shows the test as it was before the HOLD (Log 60). -/
theorem test_route_mark_and_hold :
    let t := after (.trigger 1 [15]) routedTest
    noticeCodes t = [] ∧ t.seq.held.route = true ∧ t.log.ring.map (fun r => r.held) = [false] ∧
      (t.outs.get 2).pulse = some 41300000 := by decide +kernel

/-- The further clauses of O41: a held test, a move between tests, and rest. -/
theorem witness_O41_hold :
    let held := routedBy (withHeld { HeldSet.empty with host := true } (inSeq .held testing))
    let move := routedBy (moving [segment])
    (held.Receptive ∧ held.HeldBy 0x0A1F ∧ held.seq.state = .held ∧ held.seq.held.route = false) ∧
    (move.Receptive ∧ move.HeldBy 0x0A1F ∧ move.betweenTests = true ∧ move.motion.state = .move ∧
      move.motion.lastDemand ≠ 0) ∧
    ((routedBy bench).Receptive ∧ (routedBy bench).HeldBy 0x0A1F ∧ (routedBy bench).inTest = false ∧
      (routedBy bench).motion.state = .off) := by decide +kernel

/-- The first clause of O42 on a line that sends a frame, and on an idle one with streaming off. -/
theorem witness_O42 :
    let busy := lineBusy testing
    (busy.Quiet ∧ busy.NoRoute ∧ busy.LineServed ∧ busy.host.tx ≠ .idle ∧ busy.log.due = some 41260000 ∧
      busy.log.seqNo ≤ 4294967295 ∧ busy.log.state = .running ∧ busy.log.gap = 0 ∧ busy.log.ring.length < 4095) ∧
    (testing.Quiet ∧ testing.NoRoute ∧ testing.LineServed ∧ testing.host.tx = .idle ∧ testing.log.stream = false ∧
      testing.host.resetPending = none) := by decide +kernel

/-- The clauses of O42 on an idle line: a sample that streams at once, and one behind a GAP, whose notice goes first. -/
theorem witness_O42_idle :
    let streaming := { testing with log := { testing.log with stream := true } }
    let pending := { testing with log := { testing.log with stream := true, gap := 2 } }
    (streaming.Quiet ∧ streaming.LineServed ∧ (after .logIntervalExpiry streaming).log.ring = []) ∧
    (pending.Quiet ∧ pending.LineServed ∧ pending.log.gap ≠ 0 ∧ pending.log.ring.length < 4095 ∧
      (after .logIntervalExpiry pending).log.ring.length = 2) := by decide +kernel

/-- The last clause of O42: every number has been issued, and a GAP is pending. -/
theorem witness_O42_exhausted :
    let s := { testing with log := { testing.log with seqNo := 4294967296, gap := 2 } }
    s.Quiet ∧ s.log.due = some 41260000 ∧ s.log.state = .running ∧ 4294967295 < s.log.seqNo ∧ s.log.gap ≠ 0 ∧
      s.log.ring.length < 4096 := by decide +kernel

/-- A running log whose ring holds a number of records, with a number of samples skipped. -/
def crowded (n gap : Nat) : State :=
  let s := lineBusy testing
  { s with log := { s.log with ring := List.replicate n (s.logStamp .mark 0 0 0 0 0), gap := gap } }

/-- The second clause of O42: a full ring, and one that keeps its last slot for the GAP. -/
theorem witness_O42_full :
    ((crowded 4096 0).Quiet ∧ (crowded 4096 0).NoRoute ∧ (crowded 4096 0).LineServed ∧
      (crowded 4096 0).log.due = some 41260000 ∧ (crowded 4096 0).log.state = .running ∧
      (crowded 4096 0).log.seqNo ≤ 4294967295 ∧ (crowded 4096 0).log.gap = 0 ∧ (crowded 4096 0).log.ring.length = 4096) ∧
    ((crowded 4095 3).Quiet ∧ (crowded 4095 3).NoRoute ∧ (crowded 4095 3).LineServed ∧ (crowded 4095 3).log.gap ≠ 0 ∧
      4095 ≤ (crowded 4095 3).log.ring.length) := by
  refine ⟨⟨?_, ?_, ?_, rfl, rfl, ?_, rfl, List.length_replicate⟩, ?_, ?_, ?_, ?_, Nat.le_of_eq List.length_replicate.symm⟩
    <;> decide +kernel

theorem witness_O43 :
    bench.Receptive ∧ testing.Receptive ∧ testing.testing = true ∧ bench.log.state = .stopped ∧ bench.log.gap = 0 ∧
      (8 : Byte).toNat ≤ 8 ∧ 8 < (9 : Byte).toNat ∧
    (let s := { bench with log := { bench.log with state := .waiting 3 } }
     s.Receptive ∧ s.testing = false ∧ s.log.state ≠ .stopped ∧ s.log.gap = 0) ∧
    (let r : LogRecord := ⟨.sample, false, false, false, .crosshead, 255, 0, 0, 0, 0, 0, 0⟩
     let s := { bench with log := { bench.log with state := .waiting 3, gap := 2, ring := [r] } }
     s.Receptive ∧ s.testing = false ∧ s.log.state ≠ .stopped ∧ s.log.gap ≠ 0 ∧ s.log.state ≠ .running ∧
       s.log.ring ≠ [] ∧ s.log.ring.length ≤ 4096) := by decide +kernel

theorem witness_O44 :
    bench.Receptive ∧ (b4 7 ++ b4 999999999).length = 8 ∧ fieldU (b4 7 ++ b4 1000000000) 4 4 = 1000000000 ∧
      (i4 100001).length = 4 := by decide +kernel

/-- A test at the millisecond 41,250. -/
def atTick : State := { testing with time := { testing.time with msSeen := 41249 } }

theorem witness_O45 :
    bench.time.testRunning = false ∧
    ((lineBusy atTick).Quiet ∧ (lineBusy atTick).time.testRunning = true ∧
      ((lineBusy atTick).time.msSeen + 1) * 1000 ≤ (lineBusy atTick).time.testTime ∧
      (lineBusy atTick).time.testTime ≤ 4294967295 ∧
      (∀ k, ((lineBusy atTick).mon.bank.get k).quantity ≠ .testTimeMs) ∧ (lineBusy atTick).host.tx ≠ .idle) ∧
    (let m : Monitor := { Monitor.init with enable := true, quantity := .testTimeMs, always := true, state := .armed, threshold := 41250 }
     let s := inSeq .finishing { atTick with mon := { atTick.mon with bank := Eight.all m } }
     s.Quiet ∧ s.NoHoldRoute ∧ (s.mon.bank.get 7).state = .armed ∧ (s.mon.bank.get 7).falling = false ∧
       (s.mon.bank.get 7).threshold ≤ s.time.msSeen + 1 ∧ s.inTest = false) := by decide +kernel

theorem witness_O46 : bench.Listening ∧ (List.replicate 232 (0xD5 : Byte)).length ≤ 232 := by decide +kernel

theorem witness_O47 :
    bench.host.resetPending = none ∧ bench.host.rx = .hunt ∧ bench.host.replies.length < 16 ∧
      (0 : Byte).toNat * 256 + (0 : Byte).toNat ≠ crc16 [1, 2, 8, 0] ∧ 232 < (233 : Byte).toNat ∧
      ({ bench with host := { bench.host with rx := .header [] } } : State).host.rx ≠ .hunt := by decide +kernel

theorem witness_O48 :
    bench.Quiet ∧ bench.Listening ∧ lengthsOf (0x50 : Byte).toNat = none ∧
      asRequest (.jog 4 [1]) = some (0x23, 4, [1]) ∧ lengthsOf 0x23 = some [5] ∧ ([1] : List Byte).length ∉ [5] ∧
      ([0, 0, 0, 0, 1] : List Byte).length ∈ [5] ∧ State.reset.Quiet ∧ State.reset.Listening ∧
      State.reset.store.ready = false := by decide +kernel

theorem witness_O49 :
    let good : List Byte := [1] ++ [1, 0, 1] ++ [0, 0, 0] ++ [1, 0xFF, 0xFF]
    bench.Listening ∧ bench.Quiet ∧ bench.store.ready = true ∧ good.length = 10 ∧
      (∀ n, n ≤ 2 → fieldU good (1 + 3 * n) 1 = 0 ∨ (fieldU good (1 + 3 * n) 1 = 1 ∧ 1 ≤ fieldU good (2 + 3 * n) 2)) ∧
      (fieldU good 0 1).testBit 0 = true ∧ (after (.stats 1 good) bench).links.slr2.errThreshold = 65535 ∧
      1 < fieldU (good.set 7 2) (1 + 3 * 2) 1 ∧ fieldU (good.set 3 0) (2 + 3 * 0) 2 = 0 := by decide +kernel

/-- A calibration record at the edges of its accepted values and past the clamped ones. -/
def edgeCal : Calibration :=
  { bench.store.cal with fcap := 2147483647, flim := 2147483647, vmax := 8388608, dwellMs := 0, retryLimit := 7 }

theorem witness_O50 :
    let p := calBytes edgeCal
    (p.length = 106 ∧ fieldU p 32 4 ≤ 2147483647 ∧ fieldU p 36 4 ≤ fieldU p 32 4 ∧ fieldU p 48 4 ≤ 2147483647 ∧
      fieldU p 52 4 ≤ 2147483647 ∧ fieldU p 60 4 ≤ 2147483647 ∧ (1 ≤ fieldU p 68 4 ∧ fieldU p 68 4 ≤ 100000000) ∧
      (1 ≤ fieldU p 72 4 ∧ fieldU p 72 4 ≤ 100000000) ∧ fieldU p 81 1 ∈ [1, 5, 20, 100] ∧ fieldU p 82 1 ≤ 1 ∧
      fieldU p 83 2 ∈ [100, 250, 500, 1000] ∧ (1 ≤ fieldU p 85 1 ∧ fieldU p 85 1 ≤ 7) ∧
      (50 ≤ fieldU p 95 2 ∧ fieldU p 95 2 ≤ 2000) ∧ fieldU p 97 1 ≤ 15) ∧
    (List.replicate 106 (0 : Byte)).length = 106 ∧ ¬ 1 ≤ fieldU (List.replicate 106 0) 68 4 ∧ bench.Receptive ∧ bench.betweenTests = true ∧
      bench.store.save = none ∧ testing.Receptive ∧ testing.betweenTests = false ∧
      ({ bench with store := { bench.store with save := some [] } } : State).store.save ≠ none := by decide +kernel

/-- The last clause of O50, with a tare in flight that fails and a calibration that is no longer valid: no level changes. -/
theorem witness_O50_settled :
    let s := { bench with force := { bench.force with tareOp := some { count := 3, sum := 7 } } }
    let t := after (.setCal 1 (calBytes edgeCal)) s
    s.Receptive ∧ s.betweenTests = true ∧ s.store.save = none ∧ s.motion.state ≠ .test ∧
      (∀ k, (s.ins.get k).asserted = ((s.ins.get k).filtered != edgeCal.invert.get k)) ∧
      edgeCal.fcap ≠ s.store.cal.fcap ∧ s.store.calValid = true ∧ edgeCal.range0.gain = 0 ∧
      t.force.tareOp = none ∧ t.motion.ceiling = edgeCal.blindSpeed ∧ t.motion.blind = true := by decide +kernel

theorem witness_O51 :
    let s := { bench with store := { bench.store with save := some [1] } }
    bench.Receptive ∧ bench.store.save = none ∧ s.store.save = some [1] ∧ s.Quiet ∧ s.NoHoldRoute ∧
      s.motion.state ≠ .test ∧ ([2] : List Byte) ≠ [1] := by decide +kernel

/-- The register of the CRC-32 over zeros, from a value on. -/
def overZeros (crc n : Nat) : Nat := (List.replicate n (0 : Byte)).foldl crc32Byte crc

theorem overZeros_add (crc m n : Nat) : overZeros (overZeros crc m) n = overZeros crc (m + n) := by
  simp only [overZeros, ← List.foldl_append, List.replicate_append_replicate]

theorem overZeros_0 : overZeros 4294967295 64 = 2470006353 := by decide +kernel

theorem overZeros_1 : overZeros 2470006353 64 = 1184950972 := by decide +kernel

theorem overZeros_2 : overZeros 1184950972 64 = 2968453166 := by decide +kernel

theorem overZeros_3 : overZeros 2968453166 64 = 3848181327 := by decide +kernel

theorem overZeros_4 : overZeros 3848181327 64 = 1293229130 := by decide +kernel

theorem overZeros_5 : overZeros 1293229130 64 = 494183150 := by decide +kernel

theorem overZeros_6 : overZeros 494183150 64 = 1033350813 := by decide +kernel

theorem overZeros_7 : overZeros 1033350813 60 = 3578339855 := by decide +kernel

/-- The CRC-32 of the zeros of a stored block, in pieces that the kernel evaluates. -/
theorem crc32_zeros : crc32 (List.replicate 508 0) = 716627440 := by
  have h : overZeros 4294967295 508 = 3578339855 := by
    rw [← overZeros_add _ 448 60, ← overZeros_add _ 384 64, ← overZeros_add _ 320 64, ← overZeros_add _ 256 64,
      ← overZeros_add _ 192 64, ← overZeros_add _ 128 64, ← overZeros_add _ 64 64, overZeros_0, overZeros_1,
      overZeros_2, overZeros_3, overZeros_4, overZeros_5, overZeros_6, overZeros_7]
  simp only [overZeros] at h
  rw [crc32, h]
  decide

/-- The stored block of O52 whose CRC does not match: zeros throughout, as at reset. -/
theorem witness_O52 :
    bench.store.ready = true ∧ State.reset.store.ready = false ∧ State.reset.store.nv = .bytes (List.replicate 512 0) ∧
      crc32 ((List.replicate 512 (0 : Byte)).take 508) ≠ natOf ((List.replicate 512 (0 : Byte)).drop 508) := by
  refine ⟨rfl, rfl, rfl, ?_⟩
  rw [List.take_replicate, List.drop_replicate]
  rw [show min 508 512 = 508 from rfl, crc32_zeros]
  decide +kernel

/-- The stored block of O52 whose CRC matches: zeros and their CRC. -/
theorem witness_O52_matching :
    let bs : List Byte := List.replicate 508 0 ++ b4 716627440
    bs.length = 512 ∧ crc32 (bs.take 508) = natOf (bs.drop 508) := by
  intro bs
  refine ⟨by decide +kernel, ?_⟩
  rw [List.take_left' List.length_replicate, List.drop_left' List.length_replicate, crc32_zeros]
  decide +kernel

/-- The end of a load over a torn block, with the motion at rest, SLR0 not LOCKED and LOCKED. -/
theorem witness_O52_torn :
    let s := { bench with store := { bench.store with ready := false, nv := .torn 4 } }
    let apart := unlocked0 s
    s.store.nv = .torn 4 ∧ s.store.ready = false ∧ s.motion.state = .off ∧ s.Quiet ∧ s.links.slr0.lock = .locked ∧
      apart.store.nv = .torn 4 ∧ apart.store.ready = false ∧ apart.motion.state = .off ∧ apart.Quiet ∧
      apart.links.slr0.lock ≠ .locked ∧ (inMotion .fault s).motion.state = .fault := by decide +kernel

theorem witness_O53 :
    let s := { bench with host := { bench.host with tx := .reply, replies := [⟨1, 2, []⟩] } }
    let e : EventRecord := ⟨0x0601, 0, 0, 0, 255, 0⟩
    let r : LogRecord := ⟨.sample, false, false, false, .crosshead, 255, 0, 0, 0, 0, 0, 0⟩
    s.Quiet ∧ s.log.gap = 0 ∧ s.host.tx ≠ .idle ∧ s.host.replies.tail = [] ∧ s.host.resetPending = none ∧
      s.router.notices = [] ∧ s.log.stream = false ∧
      ({ s with router := { s.router with notices := [e] } } : State).router.notices = e :: [] ∧
      ({ s with log := { s.log with stream := true, ring := [r] } } : State).log.ring ≠ [] ∧
      (lastFrame .restart bench).host.resetPending ≠ none ∧
      ({ s with host := { s.host with replies := [⟨1, 2, []⟩, ⟨1, 3, []⟩] } } : State).host.replies.tail ≠ [] := by
  decide +kernel

/-- A test with a command waiting, for the invariants of every step. -/
def stepping : State := { lineBusy testing with pending := [.gripSettleTick] }

theorem witness_O54_O55 : stepping.Quiet ∧ stepping.LineServed ∧ stepping.WithinCapacity := by decide +kernel

theorem witness_O56 : stepping.DriveSafe := by decide +kernel

theorem witness_O57 : stepping.TestSafe := by decide +kernel

theorem witness_O58 : stepping.MillTimeInRange := by decide +kernel

theorem witness_O54_to_O58_steps : ∃ t, step stepping = .next t := ⟨_, rfl⟩

theorem witness_O60 : fromMachine .gripSettleTick = true ∧ ∃ t, exec .gripSettleTick testing = .next t := ⟨rfl, _, rfl⟩

end Sys2Proof.Tests
end

