-- ==== Sys2Proof/Proofs/SpecimenAndPosition.lean ====
section
/-! The encoder's transitions (02 R25), ZERO_POS (02 R27), and the requests that set up a test: SET_SPECIMEN (02 R22),
SET_METHOD (07 R125), SET_PHASE (07 R126) and SET_LOOP (05 R91). First what every such request shares, then each
request's record read from its payload, then the statements. -/

namespace Sys2Proof.Machine.SpecimenAndPosition

/-! ## A request's checks -/

theorem checked_nil (s : State) (act : Answer) : checked [] s act = act := rfl

/-- A list of checks read as a chain of conditions, the first row first. -/
theorem checked_cons (b : Bool) (r : Reason) (rows : List (Bool × Reason)) (s : State) (act : Answer) :
    checked ((b, r) :: rows) s act = if b = true then checked rows s act else refuse r s := by
  cases b <;> rfl

theorem betweenTests_iff (s : State) :
    s.betweenTests = true ↔ s.seq.state = .idle ∨ s.seq.state = .complete ∨ s.seq.state = .aborted := by
  simp [State.betweenTests, or_assoc]

theorem atRest_iff (s : State) :
    s.atRest = true ↔ s.motion.state = .off ∨ s.motion.state = .standby ∨ s.motion.state = .fault := by
  simp [State.atRest, or_assoc]

/-! ## A request taken whole, refused or accepted -/

@[simp] theorem counted_betweenTests (s : State) : (counted s).betweenTests = s.betweenTests := rfl

@[simp] theorem counted_atRest (s : State) : (counted s).atRest = s.atRest := rfl

@[simp] theorem counted_frame (s : State) :
    (counted s).strain = s.strain ∧ (counted s).motion = s.motion ∧ (counted s).loop = s.loop ∧
    (counted s).seq = s.seq ∧ (counted s).store = s.store := ⟨rfl, rfl, rfl, rfl, rfl⟩

/-- A request of an allowed length fits a frame (11 R199). -/
theorem length_le_of_lengthsOf {kind n : Nat} {ls : List Nat} (hk : lengthsOf kind = some ls) (hn : n ∈ ls) :
    n ≤ 232 := by
  have fits : ∀ row ∈ catalogueLengths, ∀ m ∈ row.2, m ≤ 232 := by decide
  obtain ⟨row, hrow, rfl⟩ := Option.map_eq_some_iff.mp hk
  exact fits row (List.mem_of_find?_eq_some hrow) n hn

section
variable {c : Instr} {kind : Nat} {tag : Byte} {p : List Byte} {handle : List Byte → State → Answer} {s : State}
  {ls : List Nat}

/-- A refused request changes nothing beside the host link (11 R201). -/
theorem exec_refused {r : Reason} (hc : exec c s = .next (hostRequest kind tag p handle s)) (h : s.Receptive)
    (hk : lengthsOf kind = some ls) (hl : p.length ∈ ls) (ha : handle p (counted s) = refuse r (counted s)) :
    exec c s = .next (replied kind tag (.error r) s) := by
  have ⟨_, hquiet, hhunt, _⟩ := h
  rw [hc, hostRequest_replied kind tag p handle s s ls _ h (length_le_of_lengthsOf hk hl) hk
    (List.contains_iff_mem.mpr hl) ha hquiet hhunt]

/-- An accepted request whose owner leaves the host link, the events and the firings alone. -/
theorem exec_accepted (t : State) {bytes : List Byte} (hc : exec c s = .next (hostRequest kind tag p handle s))
    (h : s.Receptive) (hk : lengthsOf kind = some ls) (hl : p.length ∈ ls)
    (ha : handle p (counted s) = accept (counted t) bytes)
    (hkeeps : t.host = s.host ∧ t.router = s.router ∧ t.mon = s.mon) :
    exec c s = .next (replied kind tag (.ok bytes) t) := by
  have ⟨_, ⟨hraised, hfired⟩, hhunt, _⟩ := h
  obtain ⟨hhost, hrouter, hmon⟩ := hkeeps
  rw [hc, hostRequest_replied kind tag p handle s t ls _ h (length_le_of_lengthsOf hk hl) hk
    (List.contains_iff_mem.mpr hl) ha ⟨hrouter ▸ hraised, hmon ▸ hfired⟩ (hhost ▸ hhunt)]

end

/-! ## The encoder (02 R25) -/

/-- The pair's steps forward: 00, 10, 11, 01 and round again (02 R25). -/
def encoderCycle : List ((Bool × Bool) × (Bool × Bool)) :=
  [((false, false), (true, false)), ((true, false), (true, true)), ((true, true), (false, true)),
    ((false, true), (false, false))]

/-- One place on in the cycle is a step forward. -/
theorem quadrature_forward : ∀ a b a' b' : Bool,
    (quadrature a' b' + 4 - quadrature a b) % 4 = 1 ↔ ((a, b), (a', b')) ∈ encoderCycle := by decide

/-- Three places on in the cycle is a step back. -/
theorem quadrature_backward : ∀ a b a' b' : Bool,
    (quadrature a' b' + 4 - quadrature a b) % 4 = 3 ↔ ((a', b'), (a, b)) ∈ encoderCycle := by decide

/-- Two places on in the cycle is neither a step nor the same pair. -/
theorem quadrature_skip : ∀ a b a' b' : Bool,
    (quadrature a' b' + 4 - quadrature a b) % 4 = 2 ↔
      ¬ (((a, b), (a', b')) ∈ encoderCycle ∨ ((a', b'), (a, b)) ∈ encoderCycle ∨ (a, b) = (a', b')) := by decide

theorem sat32_eq (x : Int) : sat32 x = min 2147483647 (max (-2147483648) x) := by
  simp only [sat32, clampTo]; omega

/-- An encoder transition by the old pair and the new one. -/
theorem doEncoderTransition_eq (a b : Bool) (s : State) :
    doEncoderTransition a b s = { s with motion :=
      if ((s.motion.encA, s.motion.encB), (a, b)) ∈ encoderCycle then
        { s.motion with encA := a, encB := b, encCount := sat32 (s.motion.encCount + 1) }
      else if ((a, b), (s.motion.encA, s.motion.encB)) ∈ encoderCycle then
        { s.motion with encA := a, encB := b, encCount := sat32 (s.motion.encCount - 1) }
      else if (s.motion.encA, s.motion.encB) = (a, b) then { s.motion with encA := a, encB := b }
      else { s.motion with encA := a, encB := b, encErrors := satU32 (s.motion.encErrors + 1) } } := by
  simp only [doEncoderTransition, quadrature_forward, quadrature_backward, quadrature_skip]
  by_cases hf : ((s.motion.encA, s.motion.encB), (a, b)) ∈ encoderCycle
  · simp only [hf, if_true]
  · by_cases hb : ((a, b), (s.motion.encA, s.motion.encB)) ∈ encoderCycle
    · simp only [hf, hb, if_true, if_false]
    · by_cases he : (s.motion.encA, s.motion.encB) = (a, b) <;>
        simp only [hf, hb, he, or_self, or_true, not_true, not_false_eq_true, if_true, if_false]

/-- A step forward counts up. -/
theorem encCount_forward {a b : Bool} {s : State} (h : ((s.motion.encA, s.motion.encB), (a, b)) ∈ encoderCycle) :
    (doEncoderTransition a b s).motion.encCount = sat32 (s.motion.encCount + 1) := by
  rw [doEncoderTransition_eq, if_pos h]

theorem exec_encoderTransition (a b : Bool) (s : State) :
    exec (.encoderTransition a b) s = .next (doEncoderTransition a b s) := rfl

/-- Settles O17: the pair's place in the cycle tells a step forward, a step back, both phases and no change apart. -/
theorem encoderTransition : Obligations.EncoderTransition := by
  unfold Obligations.EncoderTransition
  intro a b s old cycle m
  rw [exec_encoderTransition, doEncoderTransition_eq, sat32_eq, sat32_eq, satU32, Nat.min_comm]
  rfl

/-! ## ZERO_POS (02 R27) -/

theorem exec_zeroPos (tag : Byte) (p : List Byte) (s : State) :
    exec (.zeroPos tag p) s = .next (hostRequest 0x1A tag p (fun _ => reqZeroPos) s) := rfl

/-- The count set to 0. -/
def zeroedCount (s : State) : State := { s with motion := { s.motion with encCount := 0 } }

theorem zeroedCount_counted (s : State) : zeroedCount (counted s) = counted (zeroedCount s) := rfl

/-- ZERO_POS: its three checks in order, then the count set to 0. -/
theorem reqZeroPos_eq (s : State) :
    reqZeroPos s =
      if s.betweenTests = true then
        if s.atRest = true then
          if s.motion.queue.isEmpty = true then accept (zeroedCount s) [] else refuse .queueNotEmpty s
        else refuse .wrongState s
      else refuse .wrongState s := by
  simp only [reqZeroPos, checked_cons, checked_nil, zeroedCount]

/-- A count of 0 is position 0, whatever the pitch. -/
theorem position_zeroedCount (s : State) : (zeroedCount s).position = 0 := by
  change sat32 (roundDiv (0 * _) 1000) = 0
  rw [Int.zero_mul]
  decide

/-- An accepted ZERO_POS. -/
theorem exec_zeroPos_accepted (tag : Byte) {s : State} (h : s.Receptive) (hb : s.betweenTests = true)
    (hr : s.atRest = true) (hq : s.motion.queue = []) :
    exec (.zeroPos tag []) s = .next (replied 0x1A tag (.ok []) (zeroedCount s)) :=
  exec_accepted (zeroedCount s) (exec_zeroPos tag [] s) h rfl List.mem_cons_self
    (by simp [reqZeroPos_eq, zeroedCount_counted, hb, hr, hq]) ⟨rfl, rfl, rfl⟩

/-- Settles O26: each refusal by the check that fails, and the count after the step forward from 00 to 10. -/
theorem zeroPos : Obligations.ZeroPos := by
  unfold Obligations.ZeroPos
  intro tag s h
  have refused {r : Reason} := exec_refused (r := r) (exec_zeroPos tag [] s) h rfl List.mem_cons_self
  simp only [← betweenTests_iff, ← atRest_iff]
  refine ⟨?checks, position_zeroedCount s, ?counts⟩
  case checks =>
    split
    · next hb => exact refused (by simp [reqZeroPos_eq, hb])
    next hb =>
    have hb := Classical.not_not.mp hb
    split
    · next hr => exact refused (by simp [reqZeroPos_eq, hb, hr])
    next hr =>
    have hr := Classical.not_not.mp hr
    split
    · next hq => exact refused (by simp [reqZeroPos_eq, hb, hr, hq])
    · next hq => exact exec_zeroPos_accepted tag h hb hr (Classical.not_not.mp hq)
  case counts =>
    intro hb hr hq hA hB
    have forward : ((s.motion.encA, s.motion.encB), (true, false)) ∈ encoderCycle := by rw [hA, hB]; decide
    exact ⟨_, _, exec_zeroPos_accepted tag h hb hr hq, exec_encoderTransition _ _ _, encCount_forward forward⟩

/-! ## Fields of a payload -/

theorem natOf_lt (bs : List Byte) : natOf bs < 256 ^ bs.length := by
  induction bs with
  | nil => decide
  | cons b bs ih =>
    have head : natOf [b] = b.toNat := by simp [natOf]
    rw [← List.singleton_append, natOf_append, head, List.length_append, List.length_singleton, Nat.pow_add]
    have := Nat.mul_le_mul_right (256 ^ bs.length) (Nat.le_of_lt_succ b.isLt)
    omega

theorem fieldU_lt (p : List Byte) (off len : Nat) : fieldU p off len < 256 ^ len :=
  Nat.lt_of_lt_of_le (natOf_lt _) (Nat.pow_le_pow_right (by decide) (List.length_take_le _ _))

/-- Bytes above the lowest `k` are not written. -/
theorem bytesOf_add_mul (k a n : Nat) : bytesOf k (a * 256 ^ k + n) = bytesOf k n := by
  induction k generalizing a with
  | zero => rfl
  | succ k ih =>
    have above : a * 256 ^ (k + 1) = a * 256 * 256 ^ k := by
      rw [Nat.pow_succ, Nat.mul_comm (256 ^ k), Nat.mul_assoc]
    have quotient : (a * 256 * 256 ^ k + n) / 256 ^ k = a * 256 + n / 256 ^ k := by
      rw [Nat.add_comm, Nat.add_mul_div_right _ _ (Nat.pow_pos (by decide)), Nat.add_comm]
    have byte : BitVec.ofNat 8 (a * 256 + n / 256 ^ k) = BitVec.ofNat 8 (n / 256 ^ k) := by
      apply BitVec.eq_of_toNat_eq; simp [Nat.add_mod]
    rw [above, bytesOf, bytesOf, ih, quotient, byte]

/-- Bytes read as a number and written again. -/
theorem bytesOf_natOf (bs : List Byte) : bytesOf bs.length (natOf bs) = bs := by
  induction bs with
  | nil => rfl
  | cons b bs ih =>
    have head : natOf [b] = b.toNat := by simp [natOf]
    have value : natOf (b :: bs) = b.toNat * 256 ^ bs.length + natOf bs := by
      rw [← List.singleton_append, natOf_append, head]
    have quotient : natOf (b :: bs) / 256 ^ bs.length = b.toNat := by
      rw [value, Nat.add_comm, Nat.add_mul_div_right _ _ (Nat.pow_pos (by decide)), Nat.div_eq_of_lt (natOf_lt bs), Nat.zero_add]
    rw [List.length_cons, bytesOf, quotient, value, bytesOf_add_mul, ih, BitVec.ofNat_toNat, BitVec.setWidth_eq]

/-- A field of four bytes written again stands where it was read. -/
theorem b4_fieldU_append {p : List Byte} {off : Nat} (h : off + 4 ≤ p.length) :
    b4 (fieldU p off 4) ++ p.drop (off + 4) = p.drop off := by
  have hlen : ((p.drop off).take 4).length = 4 := by rw [List.length_take, List.length_drop]; omega
  have field : b4 (fieldU p off 4) = (p.drop off).take 4 := by
    have := bytesOf_natOf ((p.drop off).take 4)
    rwa [hlen] at this
  rw [field, ← List.drop_drop, List.take_append_drop]

theorem fieldU_singleton (b : Byte) : fieldU [b] 0 1 = b.toNat := by simp [fieldU, natOf]

theorem isEmpty_of_length {p : List Byte} {n : Nat} (h : p.length = n + 1) : p.isEmpty = false := by
  cases p with
  | nil => cases h
  | cons _ _ => rfl

theorem within_iff (lo hi n : Nat) : within lo hi n = true ↔ lo ≤ n ∧ n ≤ hi := by simp [within]

theorem flagOf_eq (n : Nat) : flagOf n = if n ≤ 1 then some (n == 1) else none := by
  match n with
  | 0 | 1 | n + 2 => simp [flagOf]

/-! ## SET_SPECIMEN (02 R22) -/

theorem exec_setSpecimen (tag : Byte) (p : List Byte) (s : State) :
    exec (.setSpecimen tag p) s = .next (hostRequest 0x10 tag p reqSetSpecimen s) := rfl

/-- The specimen record that a payload spells (11 R203). -/
def specimenRead (p : List Byte) : Specimen :=
  { area := fieldU p 0 4, lc := fieldU p 4 4, l0Prim := fieldU p 8 4, l0Sec := fieldU p 12 4,
    eMin := fieldU p 16 4, eMax := fieldU p 20 4 }

/-- The accepted ranges of a specimen record (02 R22). -/
abbrev SpecimenFits (r : Specimen) : Prop :=
  (1 ≤ r.area ∧ r.area ≤ 4000000000) ∧ (1000 ≤ r.lc ∧ r.lc ≤ 2000000) ∧
    (1000 ≤ r.l0Prim ∧ r.l0Prim ≤ 2000000) ∧ (1000 ≤ r.l0Sec ∧ r.l0Sec ≤ 2000000) ∧
    (1 ≤ r.eMin ∧ r.eMin ≤ 1000000) ∧ (r.eMin ≤ r.eMax ∧ r.eMax ≤ 1000000)

theorem specimenOf_eq (p : List Byte) :
    specimenOf p = if SpecimenFits (specimenRead p) then some (specimenRead p) else none := by
  simp only [specimenOf, SpecimenFits, specimenRead, Bool.and_eq_true, within_iff, and_assoc]

/-- A specimen record is reported as it was sent. -/
theorem specimenBytes_specimenRead {p : List Byte} (h : p.length = 24) : specimenBytes (specimenRead p) = p := by
  have last : p.drop (20 + 4) = [] := List.drop_of_length_le (Nat.le_of_eq h)
  have field (off : Nat) (hoff : off ≤ 20) := b4_fieldU_append (p := p) (off := off) (by omega)
  calc specimenBytes (specimenRead p)
      = b4 (fieldU p 0 4) ++ (b4 (fieldU p 4 4) ++ (b4 (fieldU p 8 4) ++ (b4 (fieldU p 12 4) ++
          (b4 (fieldU p 16 4) ++ (b4 (fieldU p 20 4) ++ p.drop (20 + 4)))))) := by
        simp only [specimenBytes, specimenRead, last, List.append_assoc, List.append_nil]
    _ = p := by
        rw [field 20 (by decide), field 16 (by decide), field 12 (by decide), field 8 (by decide), field 4 (by decide),
          field 0 (by decide), List.drop_zero]

/-- SET_SPECIMEN: refused in a test, else a query, a replacement or a refused value. -/
theorem reqSetSpecimen_eq (p : List Byte) (s : State) :
    reqSetSpecimen p s =
      if s.betweenTests = true then
        if p.isEmpty = true then accept s (specimenBytes s.strain.specimen)
        else if SpecimenFits (specimenRead p) then
          accept { s with strain := { s.strain with specimen := specimenRead p } } (specimenBytes (specimenRead p))
        else refuse .badValue s
      else refuse .wrongState s := by
  simp only [reqSetSpecimen, checked_cons, checked_nil, specimenOf_eq]
  by_cases hfits : SpecimenFits (specimenRead p)
  · simp only [if_pos hfits]
  · simp only [if_neg hfits]

/-! ## SET_METHOD (07 R125) -/

theorem exec_setMethod (tag : Byte) (p : List Byte) (s : State) :
    exec (.setMethod tag p) s = .next (hostRequest 0x11 tag p reqSetMethod s) := rfl

/-- The removal policy of a byte in its list. -/
def policyRead (n : Nat) : Policy := if n = 0 then .none else if n = 1 then .pause else .fly

/-- The removal condition of its byte under a policy's byte; none under the policy NONE. -/
def condRead (policy n : Nat) : Option RemovalCond :=
  if policy = 0 then none else some (if n < 8 then .monitor (Fin.ofNat 8 n) else .afterProof)

theorem policyOf_eq (n : Nat) : policyOf n = if n ≤ 2 then some (policyRead n) else none := by
  match n with
  | 0 | 1 | 2 | n + 3 => simp [policyOf, policyRead]

theorem policyRead_beq_none (n : Nat) : (policyRead n == .none) = decide (n = 0) := by
  match n with
  | 0 | 1 | n + 2 => simp [policyRead]

theorem condOf_eq (n : Nat) :
    condOf n = if n ≤ 8 then some (if n < 8 then .monitor (Fin.ofNat 8 n) else .afterProof) else none := by
  by_cases hlt : n < 8
  · simp [condOf, hlt, Nat.le_of_lt hlt, Fin.ofNat, Nat.mod_eq_of_lt hlt]
  · by_cases heq : n = 8
    · simp [condOf, heq]
    · have hgt : ¬ n ≤ 8 := by omega
      simp [condOf, hlt, heq, hgt]

/-- The method record that a payload spells (11 R203). -/
def methodRead (p : List Byte) : Method :=
  { phaseCount := fieldU p 0 1, strainZero := fieldU p 1 1 == 1
    policy := policyRead (fieldU p 2 1), cond := condRead (fieldU p 2 1) (fieldU p 3 1)
    timeout := fieldU p 4 2, guardMargin := fieldU p 6 4, slip := fieldU p 10 4, lockAbort := fieldU p 14 1 == 1
    fitLower := fieldU p 15 4, fitUpper := fieldU p 19 4, proofOffset := fieldU p 23 4
    yieldDrop := fieldU p 27 2, transient := fieldU p 29 4, yieldLimit := fieldU p 33 4
    plateauLimit := fieldU p 37 4, fmaxPass := fieldU p 41 2, fracture := fieldU p 43 2
    minFracture := fieldU p 45 4, useBreak := fieldU p 49 1 == 1, gripSettle := fieldU p 50 2 }

/-- The accepted values of a method record (07 R125): its numbers, and the flags and codes of its payload. -/
abbrev MethodFits (p : List Byte) (m : Method) : Prop :=
  m.phaseCount ≤ 8 ∧ fieldU p 1 1 ≤ 1 ∧ fieldU p 2 1 ≤ 2 ∧ (fieldU p 2 1 = 0 ∨ fieldU p 3 1 ≤ 8) ∧
    (1 ≤ m.timeout ∧ m.timeout ≤ 60) ∧ m.guardMargin ≤ 8388607 ∧ m.slip ≤ 2147483647 ∧ fieldU p 14 1 ≤ 1 ∧
    (m.fitLower < m.fitUpper ∧ m.fitUpper ≤ 2147483647) ∧ (1 ≤ m.proofOffset ∧ m.proofOffset ≤ 2147483647) ∧
    (1 ≤ m.yieldDrop ∧ m.yieldDrop ≤ 999) ∧ m.transient ≤ 2147483647 ∧
    (1 ≤ m.yieldLimit ∧ m.yieldLimit ≤ 2147483647) ∧ (1 ≤ m.plateauLimit ∧ m.plateauLimit ≤ 2147483647) ∧
    (1 ≤ m.fmaxPass ∧ m.fmaxPass ≤ 999) ∧ (1 ≤ m.fracture ∧ m.fracture ≤ 999) ∧ m.minFracture ≤ 2147483647 ∧
    fieldU p 49 1 ≤ 1

/-- The four lists of a method record's payload and the removal condition that the policy asks for. -/
theorem MethodFits.lists {p : List Byte} {m : Method} (h : MethodFits p m) :
    fieldU p 1 1 ≤ 1 ∧ fieldU p 2 1 ≤ 2 ∧ fieldU p 14 1 ≤ 1 ∧ fieldU p 49 1 ≤ 1 ∧
      (fieldU p 2 1 = 0 ∨ fieldU p 3 1 ≤ 8) := by
  obtain ⟨_, hzero, hpolicy, hcond, _, _, _, hlock, _, _, _, _, _, _, _, _, _, hbreak⟩ := h
  exact ⟨hzero, hpolicy, hlock, hbreak, hcond⟩

/-- The removal condition of the model's reader, where the byte is in its list or not asked for. -/
theorem cond_eq_condRead {policy n : Nat} (h : policy = 0 ∨ n ≤ 8) :
    (if (policyRead policy == .none) = true then none else condOf n) = condRead policy n := by
  rw [policyRead_beq_none, condOf_eq, condRead]
  by_cases h0 : policy = 0
  · simp [h0]
  · simp [h0, h.resolve_left h0]

/-- A removal policy beside NONE wants a condition of the list. -/
theorem cond_present_iff (policy n : Nat) :
    (policyRead policy == .none || (if (policyRead policy == .none) = true then none else condOf n).isSome) = true ↔
      policy = 0 ∨ n ≤ 8 := by
  rw [policyRead_beq_none, condOf_eq]
  by_cases h0 : policy = 0
  · simp [h0]
  · by_cases hn : n ≤ 8
    · simp [h0, hn]
    · simp [h0, hn]

/-- The reader takes a payload exactly where every field lies within its accepted values: the bytes of its four lists in
their order, then the numbers. -/
theorem methodOf_eq (p : List Byte) :
    methodOf p = if MethodFits p (methodRead p) then some (methodRead p) else none := by
  by_cases hzero : fieldU p 1 1 ≤ 1
  case neg =>
    rw [if_neg fun h => hzero h.lists.1]
    simp only [methodOf, flagOf_eq, if_neg hzero]
  by_cases hpolicy : fieldU p 2 1 ≤ 2
  case neg =>
    rw [if_neg fun h => have ⟨_, hp, _⟩ := h.lists; hpolicy hp]
    simp only [methodOf, flagOf_eq, policyOf_eq, if_pos hzero, if_neg hpolicy]
  by_cases hlock : fieldU p 14 1 ≤ 1
  case neg =>
    rw [if_neg fun h => have ⟨_, _, hl, _⟩ := h.lists; hlock hl]
    simp only [methodOf, flagOf_eq, policyOf_eq, if_pos hzero, if_pos hpolicy, if_neg hlock]
  by_cases hbreak : fieldU p 49 1 ≤ 1
  case neg =>
    rw [if_neg fun h => have ⟨_, _, _, hb, _⟩ := h.lists; hbreak hb]
    simp only [methodOf, flagOf_eq, policyOf_eq, if_pos hzero, if_pos hpolicy, if_pos hlock, if_neg hbreak]
  simp only [methodOf, flagOf_eq, policyOf_eq, if_pos hzero, if_pos hpolicy, if_pos hlock, if_pos hbreak]
  by_cases hcond : fieldU p 2 1 = 0 ∨ fieldU p 3 1 ≤ 8
  case neg =>
    rw [if_neg (c := MethodFits p _) fun h => have ⟨_, _, _, _, hc⟩ := h.lists; hcond hc]
    simp only [Bool.eq_false_iff.mpr (mt (cond_present_iff _ _).mp hcond), Bool.and_false, Bool.false_and,
      Bool.false_eq_true, if_false]
  have gripSettle := Nat.le_of_lt_succ (fieldU_lt p 50 2)
  simp only [(cond_present_iff _ _).mpr hcond, Bool.and_true]
  simp only [Bool.and_eq_true, within_iff, cond_eq_condRead hcond, decide_eq_true_eq]
  refine ite_congr (propext ?_) (fun _ => rfl) (fun _ => rfl)
  simp only [MethodFits, methodRead]
  omega

/-- SET_METHOD: refused in a test, else a query, a replacement or a refused value. -/
theorem reqSetMethod_eq (p : List Byte) (s : State) :
    reqSetMethod p s =
      if s.betweenTests = true then
        if p.isEmpty = true then accept s (methodBytes s.seq.method)
        else if MethodFits p (methodRead p) then
          accept { s with seq := { s.seq with method := methodRead p } } (methodBytes (methodRead p))
        else refuse .badValue s
      else refuse .wrongState s := by
  simp only [reqSetMethod, checked_cons, checked_nil, methodOf_eq]
  by_cases hfits : MethodFits p (methodRead p)
  · simp only [if_pos hfits]
  · simp only [if_neg hfits]

/-! ## SET_PHASE (07 R126) -/

theorem exec_setPhase (tag : Byte) (p : List Byte) (s : State) :
    exec (.setPhase tag p) s = .next (hostRequest 0x12 tag p reqSetPhase s) := rfl

theorem modeOf_eq (n : Nat) : modeOf n = [Mode.positionRate, .stressRate, .strainRate, .holdPosition][n]? := by
  match n with
  | 0 | 1 | 2 | 3 => rfl
  | n + 4 => simp [modeOf]

theorem exitOf_eq (n : Nat) :
    exitOf n = [ExitKind.monitor, .yieldDecided, .proofDecided, .fmaxPassed, .handoverDone, .time, .fractureOnly][n]? := by
  match n with
  | 0 | 1 | 2 | 3 | 4 | 5 | 6 => rfl
  | n + 7 => simp [exitOf]

/-- The phase table entry that a payload spells, as it is stored (07 R126). -/
def phaseRead (mode : Mode) (exit : ExitKind) (p : List Byte) (vmaxMachine : Nat) : Phase :=
  { mode := mode, rate := if mode = .holdPosition then 0 else fieldS p 2 4, vmax := min (fieldU p 6 4) vmaxMachine
    exit := exit, arg := if exit = .monitor ∨ exit = .time then fieldU p 11 4 else 0 }

/-- The accepted values of a phase table entry (07 R126). -/
abbrev PhaseFits (exit : ExitKind) (p : List Byte) : Prop :=
  fieldU p 6 4 ≠ 0 ∧ (exit = .monitor → fieldU p 11 4 ≤ 7) ∧
    (exit = .time → 1 ≤ fieldU p 11 4 ∧ fieldU p 11 4 ≤ 3600000)

/-- A mode or an exit kind outside its list spells no entry. -/
theorem phaseOf_unlisted {p : List Byte} (h : 3 < fieldU p 1 1 ∨ 6 < fieldU p 10 1) (vmaxMachine : Nat) :
    phaseOf p vmaxMachine = none := by
  cases h with
  | inl hmode =>
    have mode : modeOf (fieldU p 1 1) = none := by rw [modeOf_eq, List.getElem?_eq_none hmode]
    simp only [phaseOf, mode]
  | inr hexit =>
    have exit : exitOf (fieldU p 10 1) = none := by rw [exitOf_eq, List.getElem?_eq_none hexit]
    simp only [phaseOf, exit]
    cases modeOf (fieldU p 1 1) <;> rfl

theorem phaseOf_listed {p : List Byte} {mode : Mode} {exit : ExitKind} (hmode : modeOf (fieldU p 1 1) = some mode)
    (hexit : exitOf (fieldU p 10 1) = some exit) (vmaxMachine : Nat) :
    phaseOf p vmaxMachine = if PhaseFits exit p then some (phaseRead mode exit p vmaxMachine) else none := by
  have monitor : (exit == .monitor && decide (7 < fieldU p 11 4)) = true ↔ ¬ (exit = .monitor → fieldU p 11 4 ≤ 7) := by
    simp
  have time : (exit == .time && !within 1 3600000 (fieldU p 11 4)) = true ↔
      ¬ (exit = .time → 1 ≤ fieldU p 11 4 ∧ fieldU p 11 4 ≤ 3600000) := by
    simp only [Bool.and_eq_true, beq_iff_eq, Bool.not_eq_true', ← Bool.not_eq_true, within_iff, Classical.not_imp]
  simp only [phaseOf, hmode, hexit, monitor, time, phaseRead, beq_iff_eq, Bool.or_eq_true]
  by_cases hvmax : fieldU p 6 4 = 0
  · rw [if_pos hvmax, if_neg fun ⟨h, _⟩ => h hvmax]
  by_cases hmonitor : exit = .monitor → fieldU p 11 4 ≤ 7
  · by_cases htime : exit = .time → 1 ≤ fieldU p 11 4 ∧ fieldU p 11 4 ≤ 3600000
    · rw [if_neg hvmax, if_neg (Classical.not_not.mpr hmonitor), if_neg (Classical.not_not.mpr htime),
        if_pos (c := PhaseFits exit p) ⟨hvmax, hmonitor, htime⟩]
    · rw [if_neg hvmax, if_neg (Classical.not_not.mpr hmonitor), if_pos htime, if_neg fun ⟨_, _, h⟩ => htime h]
  · rw [if_neg hvmax, if_pos hmonitor, if_neg fun ⟨_, h, _⟩ => hmonitor h]

/-- An index alone is a query, in any state. -/
theorem reqSetPhase_query {p : List Byte} {k : Fin 8} (s : State) (hp : p.length = 1) (hk : fieldU p 0 1 = k.val) :
    reqSetPhase p s = accept s (phaseBytes (s.seq.phases.get k)) := by
  have index : indexOf (fieldU p 0 1) = some k := by simp [indexOf, hk]
  simp only [reqSetPhase, index, if_pos hp]

/-- An entry for an index of the table: WRONG_STATE before BAD_VALUE (Log 47). -/
theorem reqSetPhase_entry {p : List Byte} {k : Fin 8} (s : State) (hp : p.length = 15) (hk : fieldU p 0 1 = k.val) :
    reqSetPhase p s =
      if s.betweenTests = true then
        (phaseOf p s.store.cal.vmax).elim (refuse .badValue s) fun q =>
          accept { s with seq := { s.seq with phases := s.seq.phases.set k q } } (phaseBytes q)
      else refuse .wrongState s := by
  have index : indexOf (fieldU p 0 1) = some k := by simp [indexOf, hk]
  have entry : ¬ p.length = 1 := by omega
  simp only [reqSetPhase, index, if_neg entry, checked_cons, checked_nil]
  cases phaseOf p s.store.cal.vmax <;> rfl

/-- An index outside the table is refused: a query always for its value, an entry so only between tests. -/
theorem reqSetPhase_no_index {p : List Byte} (s : State) (hk : 7 < fieldU p 0 1) :
    reqSetPhase p s = refuse (if p.length = 1 ∨ s.betweenTests = true then .badValue else .wrongState) s := by
  have index : indexOf (fieldU p 0 1) = none := dif_neg (Nat.not_lt.mpr hk)
  by_cases hp : p.length = 1
  · simp only [reqSetPhase, index, if_pos hp, if_pos (Or.inl hp)]
  · by_cases hb : s.betweenTests = true
    · simp only [reqSetPhase, index, if_neg hp, if_pos hb, if_pos (Or.inr hb)]
    · simp only [reqSetPhase, index, if_neg hp, if_neg hb, if_neg (not_or.mpr ⟨hp, hb⟩)]

/-! ## SET_LOOP (05 R91) -/

theorem exec_setLoop (tag : Byte) (p : List Byte) (s : State) :
    exec (.setLoop tag p) s = .next (hostRequest 0x16 tag p reqSetLoop s) := rfl

/-- The gain set that a payload spells after the set's number (11 R203). -/
def gainsRead (p : List Byte) : Gains := { kp := fieldU p 1 4, ki := fieldU p 5 4 }

/-- A gain set is reported as it was sent. -/
theorem gainBytes_gainsRead {p : List Byte} (h : p.length = 9) : gainBytes (gainsRead p) = p.drop 1 := by
  have last : p.drop (5 + 4) = [] := List.drop_of_length_le (Nat.le_of_eq h)
  calc gainBytes (gainsRead p)
      = b4 (fieldU p 1 4) ++ (b4 (fieldU p 5 4) ++ p.drop (5 + 4)) := by rw [last, List.append_nil]; rfl
    _ = p.drop 1 := by rw [b4_fieldU_append (Nat.le_of_eq h.symm), b4_fieldU_append (by omega)]

/-- SET_LOOP: a set outside the list refused, else a query or a replacement. -/
theorem reqSetLoop_eq (p : List Byte) (s : State) :
    reqSetLoop p s =
      if fieldU p 0 1 ≤ 2 then
        if p.length = 1 then accept s (gainBytes (s.loop.gainSet (fieldU p 0 1)))
        else accept { s with loop := s.loop.setGains (fieldU p 0 1) (gainsRead p) } (gainBytes (gainsRead p))
      else refuse .badValue s := by
  simp only [reqSetLoop, checked_cons, checked_nil, decide_eq_true_eq, gainsRead]

/-! ## The statement on the four requests -/

/-- Settles O39: each clause from the request's own equation, through the frame that carries it. -/
theorem testSettings : Obligations.TestSettings := by
  unfold Obligations.TestSettings
  intro tag p s h
  refine ⟨?specimenInTest, ?specimenQuery, ?specimenRecord, ?methodInTest, ?methodQuery, ?methodRecord,
    ?phaseQuery, ?phaseEntry, ?phaseInTest, ?phaseQueryNoIndex, ?phaseNoIndex, ?loopNoSet, ?loopQuery0, ?loopQuery1,
    ?loopQuery2, ?loopGains⟩
  case specimenInTest =>
    intro hb hp
    exact exec_refused (exec_setSpecimen tag p s) h rfl (by simpa using hp) (by simp [reqSetSpecimen_eq, hb])
  case specimenQuery =>
    intro hb
    exact exec_accepted s (exec_setSpecimen tag [] s) h rfl (by simp) (by simp [reqSetSpecimen_eq, hb]) ⟨rfl, rfl, rfl⟩
  case specimenRecord =>
    intro hb hp r fits
    have owner := reqSetSpecimen_eq p (counted s)
    rw [counted_betweenTests, if_pos hb, isEmpty_of_length hp, specimenBytes_specimenRead hp] at owner
    exact ⟨fun hfits => exec_accepted _ (exec_setSpecimen tag p s) h rfl (by simp [hp])
        (owner.trans (if_pos hfits)) ⟨rfl, rfl, rfl⟩,
      fun hfits => exec_refused (exec_setSpecimen tag p s) h rfl (by simp [hp]) (owner.trans (if_neg hfits))⟩
  case methodInTest =>
    intro hb hp
    exact exec_refused (exec_setMethod tag p s) h rfl (by simpa using hp) (by simp [reqSetMethod_eq, hb])
  case methodQuery =>
    intro hb
    exact exec_accepted s (exec_setMethod tag [] s) h rfl (by simp) (by simp [reqSetMethod_eq, hb]) ⟨rfl, rfl, rfl⟩
  case methodRecord =>
    intro hb hp m fits
    have owner := reqSetMethod_eq p (counted s)
    rw [counted_betweenTests, if_pos hb, isEmpty_of_length hp] at owner
    exact ⟨fun hfits => exec_accepted _ (exec_setMethod tag p s) h rfl (by simp [hp])
        (owner.trans (if_pos hfits)) ⟨rfl, rfl, rfl⟩,
      fun hfits => exec_refused (exec_setMethod tag p s) h rfl (by simp [hp]) (owner.trans (if_neg hfits))⟩
  case phaseQuery =>
    intro k
    have index : fieldU [BitVec.ofNat 8 k.val] 0 1 = k.val := by
      rw [fieldU_singleton, BitVec.toNat_ofNat]; omega
    exact exec_accepted s (exec_setPhase tag _ s) h rfl (by simp) (reqSetPhase_query _ rfl index) ⟨rfl, rfl, rfl⟩
  case phaseEntry =>
    intro k hb hp hk rate vmax arg
    have owner := reqSetPhase_entry (counted s) hp hk
    rw [counted_betweenTests, if_pos hb] at owner
    have length : p.length ∈ [1, 15] := by simp [hp]
    constructor
    · intro hlist
      rw [phaseOf_unlisted hlist] at owner
      exact exec_refused (exec_setPhase tag p s) h rfl length owner
    · intro mode exit hmode hexit q fits
      rw [phaseOf_listed ((modeOf_eq _).trans hmode) ((exitOf_eq _).trans hexit)] at owner
      constructor
      · intro hfits
        rw [if_pos hfits] at owner
        exact exec_accepted _ (exec_setPhase tag p s) h rfl length owner ⟨rfl, rfl, rfl⟩
      · intro hfits
        rw [if_neg hfits] at owner
        exact exec_refused (exec_setPhase tag p s) h rfl length owner
  case phaseInTest =>
    intro k hb hp hk
    exact exec_refused (exec_setPhase tag p s) h rfl (by simp [hp]) (by simp [reqSetPhase_entry _ hp hk, hb])
  case phaseQueryNoIndex =>
    intro hp hk
    exact exec_refused (exec_setPhase tag p s) h rfl (by simp [hp]) (by simp [reqSetPhase_no_index _ hk, hp])
  case phaseNoIndex =>
    intro hp hk
    exact exec_refused (exec_setPhase tag p s) h rfl (by simp [hp]) (by simp [reqSetPhase_no_index _ hk, hp])
  case loopNoSet =>
    intro hp hk
    exact exec_refused (exec_setLoop tag p s) h rfl (by simpa using hp)
      ((reqSetLoop_eq p _).trans (if_neg (Nat.not_le.mpr hk)))
  case loopQuery0 | loopQuery1 | loopQuery2 =>
    exact exec_accepted s (exec_setLoop tag _ s) h rfl (by simp) (reqSetLoop_eq _ _) ⟨rfl, rfl, rfl⟩
  case loopGains =>
    intro hp hk g
    have owner := reqSetLoop_eq p (counted s)
    rw [if_pos hk, if_neg (by omega), gainBytes_gainsRead hp] at owner
    exact exec_accepted _ (exec_setLoop tag p s) h rfl (by simp [hp]) owner ⟨rfl, rfl, rfl⟩

end Sys2Proof.Machine.SpecimenAndPosition
end
